-- ==== Sys2Proof/Word.lean ====
section
/-! DEFINITION. Word.lean: the two word types of the block (00_scope.md R12, R13). Every value is unsigned. -/

namespace Sys2Proof

/-- An unsigned 8-bit value (R12). -/
abbrev Byte := BitVec 8

/-- A 16-bit value: the CRC accumulator and the CRC trailer (R13, R28). -/
abbrev Word16 := BitVec 16

end Sys2Proof
end

