-- ==== Sys2Proof/Config.lean ====
section
/-! DEFINITION. Config.lean: what is fixed for one machine (00_scope.md R9 to R11), the acts the outside world can make
(10_state.md R20), and the free values. -/

namespace Sys2Proof.Config

/-- RB_CAP: the response buffer's capacity in bytes (R9). -/
abbrev rbCap : Nat := 16

/-- SYNC: the frame sync byte (R9). -/
abbrev sync : Byte := 0x02

/-- ADDR_HOST: the address byte of every outbound frame (R9). -/
abbrev addrHost : Byte := 0x03

/-- MIN_FRAME: the smallest length `validate` accepts (R9). -/
abbrev minFrame : Nat := 5

/-- POLY: the reflected CRC polynomial (R9). -/
abbrev poly : Word16 := 0x8408

/-- CRC_INIT: the accumulator's initial value (R9, R100). -/
abbrev crcInit : Word16 := 0x0000

/-- The command codes of 30_encoding.md R79. -/
abbrev cmdReset : Byte := 0x30
/-- POLL command code (R79). -/
abbrev cmdPoll : Byte := 0x33
/-- START command code (R79). -/
abbrev cmdStart : Byte := 0x34
/-- CMD_ACK (R9, R79). -/
abbrev cmdAck : Byte := 0x00
/-- CMD_BILL (R9, R79). -/
abbrev cmdBill : Byte := 0x81

/-- One access of the host to a byte offset 0x0 to 0x3 (R32); every access moves one byte. -/
inductive HostAccess where
  | write (off : BitVec 2) (b : Byte)
  | read (off : BitVec 2)
deriving DecidableEq, Repr, Inhabited

/-- One step of one agent (R20). DESIGN CHOICE (log 1): a step of the model is a step of one agent. -/
inductive Event where
  /-- The block takes its next sequencer step. -/
  | block
  /-- The host makes one register access (R31, R32). -/
  | host (a : HostAccess)
  /-- From here on the transport accepts (true) or does not accept (false) a write (R193). -/
  | transport (accepts : Bool)
  /-- The peripheral appends bytes to RXQ (R194). -/
  | peripheral (bytes : List Byte)
  /-- The clock advances by some milliseconds, never backwards (R190). -/
  | clock (ms : Nat)
  /-- The reset input RST is driven to this level, which may be the level it has (R210). -/
  | rst (asserted : Bool)
deriving DecidableEq, Repr, Inhabited

/-- FREE VALUE (log 1): the act the outside world makes when no act is placed in the state; nothing constrains it. -/
opaque freeEvent : Nat → Event

/-- FREE VALUE (log 3): BAUD, the OPEN parameter that has no default (R11). -/
opaque baud : Nat

/-- The parameters a model takes as arguments (R10, R11). Times are in milliseconds. -/
structure Params where
  maxRetry : Nat
  initAttempts : Nat
  tResp : Nat
  tResetResp : Nat
  tResetSettle : Nat
  tInitRetry : Nat
  tInitSettle : Nat
  tRetry : Nat
  baud : Nat
  delayAfterFinal : Bool
  tw : Nat
deriving DecidableEq, Repr

/-- The defaults of R10 and R11; INIT_ATTEMPTS defaults to MAX_RETRY, and BAUD has none. -/
def Params.standard : Params :=
  { maxRetry := 3, initAttempts := 3, tResp := 100, tResetResp := 500, tResetSettle := 500, tInitRetry := 100,
    tInitSettle := 200, tRetry := 100, baud := Config.baud, delayAfterFinal := false, tw := 32 }

end Sys2Proof.Config
end

