-- ==== Sys2Proof/Machine/Memory.lean ====
section
/-! DEFINITION. Machine/Memory.lean: the response-buffer space, addresses 0 to 15, one byte each (20_memory.md R50), as a
list of cells in one canonical form: addresses strictly rising, and no cell holding what an unlisted address reads as. -/

namespace Sys2Proof.Machine

/-- The cells of RB that differ from `Memory.unlisted`. -/
abbrev Memory := List Host.Cell

/-- What a cell no exchange has written reads as. DESIGN CHOICE (log 5): 10_state.md R38 leaves it unspecified. -/
def Memory.unlisted : Byte := 0

/-- The byte at an address. -/
def Memory.read : Memory → Nat → Byte
  | [], _ => Memory.unlisted
  | (k, b) :: m, a => if k = a then b else Memory.read m a

/-- Puts one cell in its place, dropping it when it holds what an unlisted address reads as. -/
def Memory.put (a : Nat) (v : Byte) (m : Memory) : Memory := if v = Memory.unlisted then m else (a, v) :: m

/-- Writes one byte, keeping the canonical form. -/
def Memory.write : Memory → Nat → Byte → Memory
  | [], a, v => Memory.put a v []
  | (k, b) :: m, a, v =>
    if a < k then Memory.put a v ((k, b) :: m)
    else if a = k then Memory.put a v m
    else (k, b) :: Memory.write m a v

/-- Every cell from here on lies at `lo` or above, in the space, in rising order, and is not the unlisted value. -/
def Memory.wfFrom : Nat → Memory → Bool
  | _, [] => true
  | lo, (k, b) :: m => decide (lo ≤ k) && decide (k < Config.rbCap) && b != Memory.unlisted && Memory.wfFrom (k + 1) m

/-- The canonical form. -/
def Memory.wf (m : Memory) : Bool := Memory.wfFrom 0 m

/-- The bytes at addresses `a` to `a + n - 1`. -/
def Memory.bytes (m : Memory) (a : Nat) : Nat → List Byte
  | 0 => []
  | n + 1 => Memory.read m a :: Memory.bytes m (a + 1) n

/-- Writes bytes at rising addresses from `a` on. -/
def Memory.writeAll (m : Memory) (a : Nat) : List Byte → Memory
  | [] => m
  | b :: bs => Memory.writeAll (Memory.write m a b) (a + 1) bs

end Sys2Proof.Machine
end

