-- ==== Sys2Proof/Machine/State.lean ====
section
/-! DEFINITION. Machine/State.lean: the block's registers (10_state.md R21 to R30), the environment state a model carries
(R36, R37), the parameters (00_scope.md R10, R11), and the reset state (R38, 70_reset_and_hazards.md R210, R211). -/

namespace Sys2Proof.Machine

/-- The sequencer states of R23, in the order of their codes 0 to 10. -/
inductive Seq where
  | idle | opening | txCmd | collect | drain | eval | waitRetry | waitResetSettle | waitInitRetry | waitInitSettle | txAck
deriving DecidableEq, Repr

/-- The host operations; OPR holds one of them (R24, 30_encoding.md R82). -/
inductive HostOp where
  | init | reset | start | poll
deriving DecidableEq, Repr

/-- The host-duty violations FAULT can hold (R37, 60_exceptions.md R184). They are a mark in the state: the block goes on
(R188). -/
inductive DutyFault where
  /-- HOST_BUSY (42_operations.md R151). -/
  | hostBusy
  /-- BAD_OP (R152). -/
  | badOp
  /-- NOT_OPENED (R153). -/
  | notOpened
deriving DecidableEq, Repr

/-- The bits of STATUS (R29); bits 7:4 are reserved and read as 0, so nothing holds them. -/
structure Status where
  busy : Bool
  done : Bool
  badop : Bool
  opened : Bool
deriving DecidableEq, Repr

/-- The output wires of `validate` and `bill_type` as last evaluated: the model's own observation, which no rule keeps or
reads (R33; DESIGN CHOICE, log 10). -/
structure CodecOut where
  valid : Bool
  bill : Option Byte
deriving DecidableEq, Repr

/-- The whole machine. -/
structure State where
  /-- RB (R21). -/
  rb : Memory
  /-- RLEN, 0 to 16 (R22). -/
  rlen : Fin 17
  /-- SEQ (R23). -/
  seq : Seq
  /-- OPR (R24). -/
  opr : HostOp
  /-- ATT (R25). -/
  att : Nat
  /-- IATT (R26). -/
  iatt : Nat
  /-- T0, kept below 2^TW (R27). -/
  t0 : Nat
  /-- ACC (R28). -/
  acc : Word16
  /-- STATUS (R29). -/
  status : Status
  /-- RESULT (R30). -/
  result : Byte
  /-- RXQ, oldest first (R36). -/
  rxq : List Byte
  /-- TXLOG (R36). -/
  txlog : List Byte
  /-- OPENLOG (R36). -/
  openlog : List Nat
  /-- NOW in milliseconds, unbounded (R36, 60_exceptions.md R190, R191). -/
  now : Nat
  /-- FAULT (R37). -/
  fault : Option DutyFault
  /-- RST is asserted (70_reset_and_hazards.md R210). -/
  rst : Bool
  /-- The transport's present choice to accept a write (R193; log 9). -/
  txReady : Bool
  /-- The codec's output wires (log 10). -/
  codec : CodecOut
  /-- The bytes host reads have returned (log 11). -/
  rdlog : List Byte
  /-- The acts of the agents still to come (log 1). -/
  sched : List Config.Event
  /-- How many free acts have been drawn (log 1). -/
  drawn : Nat
  /-- The parameters (00_scope.md R10, R11; log 2). -/
  par : Config.Params
deriving DecidableEq, Repr

/-- Why the machine stops. -/
inductive Fault where
  /-- Raised by the COLLECT step for a byte at RB[16], an address the response-buffer space does not have (20_memory.md
  R50, R68). Safe: no run reaches it, since a full buffer leaves COLLECT (log 15). -/
  | rbOverrun
deriving DecidableEq, Repr

/-- Why an instruction is turned away. -/
inductive Refusal where
  /-- Raised by exec for an instruction that has no meaning yet. Safe. -/
  | notModelled (mnemonic : String)
  /-- Raised by BILL_TYPE on a buffer `validate` rejects: "A model refuses a call of `bill_type` without that premise"
  (40_codec.md R108). Safe: no step makes such a call. -/
  | billTypeUnvalidated
deriving DecidableEq, Repr

/-- The machine right after reset (R38, R211), with an empty environment (log 8) and the default parameters (R10, R11). -/
def State.reset : State :=
  { rb := [], rlen := 0, seq := .idle, opr := .init, att := 0, iatt := 0, t0 := 0, acc := 0,
    status := ⟨false, false, false, false⟩, result := 0, rxq := [], txlog := [], openlog := [], now := 0, fault := none,
    rst := false, txReady := true, codec := ⟨false, none⟩, rdlog := [], sched := [], drawn := 0,
    par := Config.Params.standard }

end Sys2Proof.Machine
end

