-- ==== Sys2Proof/Machine/Flags.lean ====
section
/-! DEFINITION. Machine/Flags.lean: STATUS, the only flag-like state (10_state.md R29, R33): what each rule sets and clears,
and the byte a host reads. -/

namespace Sys2Proof.Machine

/-- A bit of a byte. -/
def flagBit (f : Bool) (k : Nat) : Byte := if f then 1#8 <<< k else 0

/-- STATUS as the host reads it: bits 7:4 are 0 (R29). -/
def Status.toByte (t : Status) : Byte := flagBit t.busy 0 ||| flagBit t.done 1 ||| flagBit t.badop 2 ||| flagBit t.opened 3

/-- An accepted request sets BUSY and clears DONE and BADOP (R29, 42_operations.md R150). -/
def Status.accepted (t : Status) : Status := { t with busy := true, done := false, badop := false }

/-- `finish` clears BUSY and sets DONE (R29, R176). -/
def Status.finished (t : Status) : Status := { t with busy := false, done := true }

/-- A reserved op code sets BADOP (R29, R152). -/
def Status.sawBadOp (t : Status) : Status := { t with badop := true }

/-- The OPEN step sets OPENED (R29, R155). -/
def Status.sawOpen (t : Status) : Status := { t with opened := true }

end Sys2Proof.Machine
end

