-- ==== Sys2Proof/Machine/FrameStore.lean ====
section
/-! DEFINITION. Machine/FrameStore.lean: the fixed frame store, four read-only frames sent byte for byte as they stand
(10_state.md R35, 20_memory.md R51, 30_encoding.md R75 to R78). -/

namespace Sys2Proof.Machine

/-- The RESET frame (R75). -/
def resetFrame : List Byte := [0x02, 0x03, 0x06, 0x30, 0x41, 0xB3]

/-- The POLL frame (R76). -/
def pollFrame : List Byte := [0x02, 0x03, 0x06, 0x33, 0xDA, 0x81]

/-- The ACK frame (R77). -/
def ackFrame : List Byte := [0x02, 0x03, 0x06, 0x00, 0xC2, 0x82]

/-- The START frame (R78). -/
def startFrame : List Byte := [0x02, 0x03, 0x0C, 0x34, 0x00, 0x00, 0xFC, 0x00, 0x00, 0x00, 0x08, 0xEC]

end Sys2Proof.Machine
end

