-- ==== Sys2Proof/Syntax.lean ====
section
/-! DEFINITION. Syntax.lean: the instructions of the block (00_scope.md R2), one constructor per row of
spec/opcode_table.json. -/

namespace Sys2Proof

/-- The operands of a wire frame (30_encoding.md R70): everything but SYNC, LEN, the command code and the CRC trailer,
which the row and the operands determine. -/
inductive Frame where
  /-- LEN = 5: no CMD byte, so the byte at offset 3 is CRC_LO (R72). -/
  | bare (addr : Byte)
  /-- LEN = 6 + the number of DATA bytes (R70, R72). -/
  | full (addr : Byte) (data : List Byte)
deriving DecidableEq, Repr

/-- One constructor per row of the opcode table. `rsv` is OPREQ[7:3], which the block ignores (R84). -/
inductive Instr where
  /-- INIT, OPREQ[2:0] = 0 (R82). -/
  | init (rsv : BitVec 5)
  /-- RESET, OPREQ[2:0] = 1 (R82). -/
  | reset (rsv : BitVec 5)
  /-- START, OPREQ[2:0] = 2 (R82). -/
  | start (rsv : BitVec 5)
  /-- POLL, OPREQ[2:0] = 3 (R82). -/
  | poll (rsv : BitVec 5)
  /-- RESERVED_OP, OPREQ[2:0] = 4 + code (R83). -/
  | reservedOp (rsv : BitVec 5) (code : BitVec 2)
  /-- FRAME_RESET, CMD 0x30 (R75, R79). -/
  | frameReset (f : Frame)
  /-- FRAME_POLL, CMD 0x33 (R76, R79). -/
  | framePoll (f : Frame)
  /-- FRAME_START, CMD 0x34 (R78, R79). -/
  | frameStart (f : Frame)
  /-- FRAME_ACK, CMD 0x00 (R77, R79). -/
  | frameAck (f : Frame)
  /-- FRAME_BILL_EVENT, CMD 0x81 (R79, R81). -/
  | frameBillEvent (f : Frame)
  /-- FRAME_UNEXPECTED, every other CMD (R79, R85). -/
  | frameUnexpected (cmd : Byte) (f : Frame)
  /-- CRC16 over a byte sequence of any length (40_codec.md R100). -/
  | crc16 (d : List Byte)
  /-- VALIDATE over the response buffer (R104). -/
  | validate
  /-- BILL_TYPE over the response buffer (R107). -/
  | billType
deriving DecidableEq, Repr

end Sys2Proof
end

