-- ==== Sys2Proof/Machine/Crc.lean ====
section
/-! DEFINITION. Machine/Crc.lean: the CRC unit (40_codec.md R100 to R102) and the byte halves of a 16-bit value
(00_scope.md R13). -/

namespace Sys2Proof.Machine

/-- Bits 7:0 of a 16-bit value (R13). -/
def loByte (w : Word16) : Byte := w.setWidth 8

/-- Bits 15:8 of a 16-bit value (R13). -/
def hiByte (w : Word16) : Byte := (w >>> 8).setWidth 8

/-- `{hi, lo}`: the 16-bit value `(hi << 8) | lo` (R13). -/
def catBytes (hi lo : Byte) : Word16 := (hi.setWidth 16 <<< 8) ||| lo.setWidth 16

/-- `crc_bit`: shift right, and XOR the polynomial when the low bit was set (R101). -/
def crcBit (acc : Word16) : Word16 := if acc.getLsbD 0 then (acc >>> 1) ^^^ Config.poly else acc >>> 1

/-- `k` bit steps. -/
def crcBits : Nat → Word16 → Word16
  | 0, acc => acc
  | k + 1, acc => crcBits k (crcBit acc)

/-- `crc_byte`: XOR the byte into the accumulator, then eight bit steps (R102). -/
def crcByte (acc : Word16) (b : Byte) : Word16 := crcBits 8 (acc ^^^ b.setWidth 16)

/-- The CRC of a byte sequence from a given accumulator (R109 uses 0x2312). -/
def crcFrom (acc : Word16) : List Byte → Word16
  | [] => acc
  | b :: d => crcFrom (crcByte acc b) d

/-- `crc16`: from CRC_INIT, no final XOR (R100). -/
def crc16 (d : List Byte) : Word16 := crcFrom Config.crcInit d

/-- The CRC trailer of a covered part, CRC_LO then CRC_HI (R73). -/
def crcTrailer (covered : List Byte) : List Byte := [loByte (crc16 covered), hiByte (crc16 covered)]

/-- The bytes a frame's CRC covers: offsets 0 to LEN-3 (R70, R74). A LEN 5 frame has no CMD byte (R72). -/
def frameBody (cmd : Byte) : Frame → List Byte
  | .bare addr => [Config.sync, addr, 5]
  | .full addr data => [Config.sync, addr, BitVec.ofNat 8 (6 + data.length), cmd] ++ data

/-- The bytes of a frame in transmission order (R54, R70, R73). -/
def frameBytes (cmd : Byte) (f : Frame) : List Byte := frameBody cmd f ++ crcTrailer (frameBody cmd f)

end Sys2Proof.Machine
end

