-- ==== Sys2Proof/Machine/Codec.lean ====
section
/-! DEFINITION. Machine/Codec.lean: the response validator and the bill extractor as pure functions of the bytes held in
RB[0 .. n-1] (40_codec.md R104 to R107). -/

namespace Sys2Proof.Machine

/-- Byte `i` of a frame; every caller keeps `i` below the length. -/
def byteAt (b : List Byte) (i : Nat) : Byte := b.getD i 0

/-- The received check value `{b[n-1], b[n-2]}` (R73). -/
def trailerOf (b : List Byte) : Word16 := catBytes (byteAt b (b.length - 1)) (byteAt b (b.length - 2))

/-- The bytes the check covers, offsets 0 to n-3 (R74, R104). -/
def coveredOf (b : List Byte) : List Byte := b.take (b.length - 2)

/-- The three checks `validate` makes before it compares CRCs (R104). -/
def headerOk (b : List Byte) : Bool :=
  decide (Config.minFrame ≤ b.length) && byteAt b 0 == Config.sync && (byteAt b 2).toNat == b.length

/-- `validate` over the bytes RB[0 .. n-1] (R104). ADDR, CMD and DATA are not checked (R106). -/
def validate (b : List Byte) : Bool := headerOk b && crc16 (coveredOf b) == trailerOf b

/-- `bill_type` over the bytes RB[0 .. n-1] of a validated frame (R107). -/
def billType (b : List Byte) : Option Byte := if byteAt b 3 == Config.cmdBill then some (byteAt b 4) else none

end Sys2Proof.Machine
end

