-- ==== Sys2Proof/Machine/Operands.lean ====
section
/-! DEFINITION. Machine/Operands.lean: every operand the block takes from an encoding (30_encoding.md R89): the op code is
the constructor itself; LEN and the trailer belong to `validate`; what is left is read here. -/

namespace Sys2Proof.Machine

/-- The OPR code of an operation, OPREQ[1:0] (30_encoding.md R82). -/
def HostOp.code : HostOp → BitVec 2
  | .init => 0
  | .reset => 1
  | .start => 2
  | .poll => 3

/-- The four-bit code of a sequencer state (10_state.md R23). -/
def Seq.code : Seq → BitVec 4
  | .idle => 0
  | .opening => 1
  | .txCmd => 2
  | .collect => 3
  | .drain => 4
  | .eval => 5
  | .waitRetry => 6
  | .waitResetSettle => 7
  | .waitInitRetry => 8
  | .waitInitSettle => 9
  | .txAck => 10

/-- The bytes at offsets 3 and 4 of a validated response: all that the operation rules read of it (30_encoding.md R80). -/
structure Received where
  cmd : Byte
  byte4 : Byte
deriving DecidableEq, Repr

/-- What the operation rules read of a frame (R80, R81). For LEN 5 and LEN 6 these reach into the trailer (R72, 40_codec.md
R107). -/
def receivedOf (cmd : Byte) (f : Frame) : Received := ⟨byteAt (frameBytes cmd f) 3, byteAt (frameBytes cmd f) 4⟩

/-- The response held in RB: RB[0 .. RLEN-1] (10_state.md R22). -/
def State.response (s : State) : List Byte := s.rb.bytes 0 s.rlen

end Sys2Proof.Machine
end

