-- ==== Sys2Proof/Machine/Ops.lean ====
section
/-! DEFINITION. Machine/Ops.lean: the named operations every meaning and every step is built from: the clock
(60_exceptions.md R191), the transport (R192 to R194), the response buffer, the fault mark (R184), RST (70_reset_and_hazards.md
R210), and the retry sequencer (42_operations.md R162 to R168, R176). The block has no trap to take and none to return from
(R188): recording a fault and `finish` are the nearest it has. Where a rule's case list leaves out an operation that never
gets there, nothing is written (log 14). -/

namespace Sys2Proof.Machine

/-- RST: every element of the block takes its value of 10_state.md R38, the environment is not touched (R210). OPR, RB, T0
and ACC, which R38 leaves unspecified, take the values logs 4 to 7 name (log 12). -/
def State.resetBlock (s : State) : State :=
  { s with rb := [], rlen := 0, seq := .idle, opr := .init, att := 0, iatt := 0, t0 := 0, acc := 0,
           status := ⟨false, false, false, false⟩, result := 0, codec := ⟨false, none⟩ }

/-- `raise Fault(c)`: FAULT records the first violation and is never cleared (10_state.md R37, R184). -/
def State.raiseFault (s : State) (c : DutyFault) : State := { s with fault := some (s.fault.getD c) }

/-- The clock sample as T0 holds it, TW bits (10_state.md R27; log 19). -/
def State.stamp (s : State) : Nat := s.now % 2 ^ s.par.tw

/-- `Elapsed(T0) = (Now() - T0) mod 2^TW` (R191). -/
def State.elapsed (s : State) : Nat := (s.now + (2 ^ s.par.tw - s.t0 % 2 ^ s.par.tw)) % 2 ^ s.par.tw

/-- `frame_for(OPR)` (41_exchange.md R121). -/
def frameFor : HostOp → List Byte
  | .init => resetFrame
  | .reset => resetFrame
  | .start => startFrame
  | .poll => pollFrame

/-- `timeout_for(OPR)` (R121). -/
def State.timeoutFor (s : State) : Nat :=
  match s.opr with
  | .init => s.par.tResetResp
  | .reset => s.par.tResetResp
  | .start => s.par.tResp
  | .poll => s.par.tResp

/-- `finish(v)`: RESULT and DONE change in the same step (R176). -/
def State.finish (s : State) (v : Byte) : State := { s with result := v, status := s.status.finished, seq := .idle }

/-- `enter_wait(S)` (R126). -/
def State.enterWait (s : State) (w : Seq) : State := { s with t0 := s.stamp, seq := w }

/-- `reset_run_failed()` (R168). -/
def State.resetRunFailed (s : State) : State :=
  match s.opr with
  | .reset => s.finish 0x00
  | .init => if s.iatt < s.par.initAttempts || s.par.delayAfterFinal then s.enterWait .waitInitRetry else s.finish 0x00
  | .start => s
  | .poll => s

/-- `loop_exhausted()` (R168). -/
def State.loopExhausted (s : State) : State :=
  match s.opr with
  | .start => s.finish 0x00
  | .init => s.resetRunFailed
  | .reset => s.resetRunFailed
  | .poll => s

/-- `attempt_failed()` (R162). -/
def State.attemptFailed (s : State) : State :=
  if s.att < s.par.maxRetry || s.par.delayAfterFinal then s.enterWait .waitRetry else s.loopExhausted

/-- `start_reset_run()` (R167). -/
def State.startResetRun (s : State) : State :=
  if s.par.maxRetry = 0 then State.resetRunFailed { s with att := 0 } else { s with att := 0, seq := .txCmd }

/-- `TxWrite(f)` on acceptance: all of `f` is appended to TXLOG in one step (20_memory.md R59, R193). -/
def State.txWrite (s : State) (f : List Byte) : State := { s with txlog := s.txlog ++ f }

/-- The TX_CMD step: held until the transport accepts, then the frame is out, the buffer discarded and the timeout starts
(R122). -/
def State.sendCommand (s : State) : State :=
  if s.txReady then { s.txWrite (frameFor s.opr) with att := s.att + 1, rlen := 0, t0 := s.stamp, seq := .collect } else s

/-- The TX_ACK step: held until the transport accepts, then the operation finishes (R132). -/
def State.sendAck (s : State) : State :=
  match s.opr with
  | .start => if s.txReady then (s.txWrite ackFrame).finish 0x01 else s
  | .poll => if s.txReady then (s.txWrite ackFrame).finish (s.rb.read 4) else s
  | .init => s
  | .reset => s

/-- The CRC unit evaluates `crc16(d)`: ACC starts from CRC_INIT and is left at the result (10_state.md R28, 40_codec.md R100;
log 7). -/
def State.runCrc (s : State) (d : List Byte) : State := { s with acc := crc16 d }

/-- The codec evaluates `validate(RB, RLEN)`; the CRC unit runs only when the checks before it pass (R104; log 7). -/
def State.runValidate (s : State) : State :=
  let t := if headerOk s.response then s.runCrc (coveredOf s.response) else s
  { t with codec := { t.codec with valid := Sys2Proof.Machine.validate s.response } }

/-- The codec's `bill_type` output (R107). -/
def State.showBill (s : State) (d : Option Byte) : State := { s with codec := { s.codec with bill := d } }

/-- `eval_reset(v)` with v = true exactly when a response is given (42_operations.md R159). -/
def State.evalReset (s : State) (rx : Option Received) : State :=
  match rx with
  | some r => if r.cmd = Config.cmdAck then s.enterWait .waitResetSettle else s.attemptFailed
  | none => s.attemptFailed

/-- `eval_start(v)` (R160). -/
def State.evalStart (s : State) (rx : Option Received) : State :=
  match rx with
  | some r => if r.cmd = Config.cmdAck then { s with seq := .txAck } else s.attemptFailed
  | none => s.attemptFailed

/-- `eval_poll(v)`: `bill_type` is evaluated only when v is true (R161, 40_codec.md R108). -/
def State.evalPoll (s : State) (rx : Option Received) : State :=
  match rx with
  | some r =>
    let t := s.showBill (if r.cmd = Config.cmdBill then some r.byte4 else none)
    if r.cmd = Config.cmdBill ∧ r.byte4 ≠ 0x00 then { t with seq := .txAck } else t.finish 0x00
  | none => s.finish 0x00

/-- The branch EVAL takes, by OPR only (41_exchange.md R125). -/
def State.evalBranch (s : State) (rx : Option Received) : State :=
  match s.opr with
  | .init => s.evalReset rx
  | .reset => s.evalReset rx
  | .start => s.evalStart rx
  | .poll => s.evalPoll rx

/-- A request the block takes: the per-operation registers are rewritten and the sequencer leaves IDLE (42_operations.md
R150). -/
def State.begin (s : State) (op : HostOp) : State :=
  let t := { s with opr := op, att := 0, iatt := 0, status := s.status.accepted }
  match op with
  | .init => { t with seq := .opening }
  | .reset => t.startResetRun
  | .start => if s.par.maxRetry = 0 then t.finish 0x00 else { t with seq := .txCmd }
  | .poll => { t with seq := .txCmd }

/-- A write of one of the four op codes to OPREQ: busy first, then not opened (R150, R151, R153, 60_exceptions.md R187 (c)). -/
def State.request (s : State) (op : HostOp) : State :=
  if s.status.busy then s.raiseFault .hostBusy
  else if op ≠ .init ∧ s.status.opened = false then (s.raiseFault .notOpened).begin op
  else s.begin op

/-- A write of a reserved op code (R152); busy is checked first. -/
def State.requestReserved (s : State) : State :=
  if s.status.busy then s.raiseFault .hostBusy
  else { s.raiseFault .badOp with status := s.status.sawBadOp }

/-- The byte a host read of an offset returns (10_state.md R32). -/
def State.hostByte (s : State) (off : BitVec 2) : Byte :=
  if off = 1 then s.status.toByte else if off = 2 then s.result else 0x00

/-- A host read: no side effect beyond the record of the byte returned (R32; log 11). -/
def State.hostRead (s : State) (off : BitVec 2) : State := { s with rdlog := s.rdlog ++ [s.hostByte off] }

end Sys2Proof.Machine
end

