-- ==== Sys2Proof/Machine/CodecOps.lean ====
section
/-! DEFINITION. Machine/CodecOps.lean: the meanings of the INTERNAL rows, the codec functions the sequencer evaluates
(40_codec.md). They write no register (R100, R104, R107); their results stand on ACC and on the codec's output wires
(logs 7, 10). -/

namespace Sys2Proof.Machine

/-- CRC16 over any byte sequence (R100). -/
def execCrc16 (d : List Byte) (s : State) : Host.Outcome State Fault Refusal := .next (s.runCrc d)

/-- VALIDATE over RB[0 .. RLEN-1] (R104). -/
def execValidate (s : State) : Host.Outcome State Fault Refusal := .next s.runValidate

/-- BILL_TYPE over a validated buffer (R107); "A model refuses a call of `bill_type` without that premise" (R108). -/
def execBillType (s : State) : Host.Outcome State Fault Refusal :=
  if validate s.response then .next (s.showBill (billType s.response)) else .refused .billTypeUnvalidated

end Sys2Proof.Machine
end

