-- ==== Sys2Proof/Machine/HostOps.lean ====
section
/-! DEFINITION. Machine/HostOps.lean: the meanings of the HOSTOP rows, a write to OPREQ (42_operations.md R150 to R153).
OPREQ[7:3] is ignored (30_encoding.md R84). What an accepted operation goes on to do is the sequencer's
(Machine/Sequencer.lean) and the wire commands' (Machine/Wire.lean). -/

namespace Sys2Proof.Machine

/-- INIT (R150, R154). -/
def execInit (_rsv : BitVec 5) (s : State) : Host.Outcome State Fault Refusal := .next (s.request .init)

/-- RESET (R150, R156). -/
def execReset (_rsv : BitVec 5) (s : State) : Host.Outcome State Fault Refusal := .next (s.request .reset)

/-- START (R150, R157). -/
def execStart (_rsv : BitVec 5) (s : State) : Host.Outcome State Fault Refusal := .next (s.request .start)

/-- POLL (R150, R158). -/
def execPoll (_rsv : BitVec 5) (s : State) : Host.Outcome State Fault Refusal := .next (s.request .poll)

/-- RESERVED_OP (R152). -/
def execReservedOp (_rsv : BitVec 5) (_code : BitVec 2) (s : State) : Host.Outcome State Fault Refusal :=
  .next s.requestReserved

end Sys2Proof.Machine
end

