-- ==== Sys2Proof/Machine/Wire.lean ====
section
/-! DEFINITION. Machine/Wire.lean: the meanings of the FRAME rows. The block sends a command frame in TX_CMD
(41_exchange.md R122) and the ACK frame in TX_ACK (R132), and acts on a validated response in EVAL (R125, 42_operations.md
R159 to R161). In every other state a wire command has no effect: what is received is only collected (30_encoding.md R86;
log 13). -/

namespace Sys2Proof.Machine

/-- EVAL of a validated response (R125). -/
def State.receive (s : State) (cmd : Byte) (f : Frame) : State := s.evalBranch (some (receivedOf cmd f))

/-- A row the block both sends as a command and may receive: in TX_CMD it goes out when it is `frame_for(OPR)`, in EVAL it is
the response (R121, R122, R125). -/
def State.commandFrame (s : State) (cmd : Byte) (f : Frame) : State :=
  match s.seq with
  | .txCmd => if frameBytes cmd f = frameFor s.opr then s.sendCommand else s
  | .eval => s.receive cmd f
  | .idle => s
  | .opening => s
  | .collect => s
  | .drain => s
  | .waitRetry => s
  | .waitResetSettle => s
  | .waitInitRetry => s
  | .waitInitSettle => s
  | .txAck => s

/-- The ACK row: sent in TX_ACK, received in EVAL (R132, R125). -/
def State.ackFrameStep (s : State) (f : Frame) : State :=
  match s.seq with
  | .txAck => if frameBytes Config.cmdAck f = ackFrame then s.sendAck else s
  | .eval => s.receive Config.cmdAck f
  | .idle => s
  | .opening => s
  | .txCmd => s
  | .collect => s
  | .drain => s
  | .waitRetry => s
  | .waitResetSettle => s
  | .waitInitRetry => s
  | .waitInitSettle => s

/-- A row the block only receives (R79). -/
def State.receivedFrame (s : State) (cmd : Byte) (f : Frame) : State :=
  if s.seq = .eval then s.receive cmd f else s

/-- FRAME_RESET (R75, R85). -/
def execFrameReset (f : Frame) (s : State) : Host.Outcome State Fault Refusal := .next (s.commandFrame Config.cmdReset f)

/-- FRAME_POLL (R76, R85). -/
def execFramePoll (f : Frame) (s : State) : Host.Outcome State Fault Refusal := .next (s.commandFrame Config.cmdPoll f)

/-- FRAME_START (R78, R85). -/
def execFrameStart (f : Frame) (s : State) : Host.Outcome State Fault Refusal := .next (s.commandFrame Config.cmdStart f)

/-- FRAME_ACK (R77, R132, R159, R160). -/
def execFrameAck (f : Frame) (s : State) : Host.Outcome State Fault Refusal := .next (s.ackFrameStep f)

/-- FRAME_BILL_EVENT (R81, R161). -/
def execFrameBillEvent (f : Frame) (s : State) : Host.Outcome State Fault Refusal :=
  .next (s.receivedFrame Config.cmdBill f)

/-- FRAME_UNEXPECTED (R85). -/
def execFrameUnexpected (cmd : Byte) (f : Frame) (s : State) : Host.Outcome State Fault Refusal :=
  .next (s.receivedFrame cmd f)

end Sys2Proof.Machine
end

