-- ==== Sys2Proof/Machine/Dispatch.lean ====
section
/-! DEFINITION. Machine/Dispatch.lean: one arm per instruction. -/

namespace Sys2Proof.Machine

def exec (i : Instr) (s : State) : Host.Outcome State Fault Refusal :=
  match i with
  -- HOSTOP
  | .init rsv => Sys2Proof.Machine.execInit rsv s
  | .reset rsv => Sys2Proof.Machine.execReset rsv s
  | .start rsv => Sys2Proof.Machine.execStart rsv s
  | .poll rsv => Sys2Proof.Machine.execPoll rsv s
  | .reservedOp rsv code => Sys2Proof.Machine.execReservedOp rsv code s
  -- FRAME
  | .frameReset f => Sys2Proof.Machine.execFrameReset f s
  | .framePoll f => Sys2Proof.Machine.execFramePoll f s
  | .frameStart f => Sys2Proof.Machine.execFrameStart f s
  | .frameAck f => Sys2Proof.Machine.execFrameAck f s
  | .frameBillEvent f => Sys2Proof.Machine.execFrameBillEvent f s
  | .frameUnexpected cmd f => Sys2Proof.Machine.execFrameUnexpected cmd f s
  -- INTERNAL
  | .crc16 d => Sys2Proof.Machine.execCrc16 d s
  | .validate => Sys2Proof.Machine.execValidate s
  | .billType => Sys2Proof.Machine.execBillType s

end Sys2Proof.Machine
end

