-- ==== Sys2Proof/WellFormed.lean ====
section
/-! DEFINITION. WellFormed.lean: which instructions have an encoding the block can hold (30_encoding.md R70 to R72, R79). -/

namespace Sys2Proof

/-- The command codes that have a row of their own (R79). -/
def assignedCmds : List Byte :=
  [Config.cmdReset, Config.cmdPoll, Config.cmdStart, Config.cmdAck, Config.cmdBill]

/-- A frame fits RB (LEN at most 16, R71), and a LEN 5 frame belongs to a row only when its CRC_LO, the byte at offset 3,
is that row's command code (R72). -/
def Frame.wf (cmd : Byte) : Frame → Bool
  | .bare addr => Machine.loByte (Machine.crc16 [Config.sync, addr, 5]) == cmd
  | .full _ data => decide (6 + data.length ≤ Config.rbCap)

/-- The checks of an instruction. Host operations have none: every value of OPREQ is one of them (R82 to R84). CRC16 takes
a sequence of any length (R100). -/
def Instr.wf : Instr → Bool
  | .init _ => true
  | .reset _ => true
  | .start _ => true
  | .poll _ => true
  | .reservedOp _ _ => true
  | .frameReset f => f.wf Config.cmdReset
  | .framePoll f => f.wf Config.cmdPoll
  | .frameStart f => f.wf Config.cmdStart
  | .frameAck f => f.wf Config.cmdAck
  | .frameBillEvent f => f.wf Config.cmdBill
  | .frameUnexpected cmd f => !assignedCmds.contains cmd && f.wf cmd
  | .crc16 _ => true
  | .validate => true
  | .billType => true

end Sys2Proof
end

