-- ==== Sys2Proof/Decode.lean ====
section
/-! DEFINITION. Decode.lean: from bytes to instructions, total, rejecting by name, and back (30_encoding.md). The block
decodes on two channels: a byte written to OPREQ, and a response held in RB. The codec functions have no encoding. -/

namespace Sys2Proof

/-- Where the bytes of an instruction stand (30_encoding.md, opening). -/
inductive Channel where
  /-- The byte of a host write to OPREQ (R82). -/
  | hostPort
  /-- The bytes of a wire frame (R70). -/
  | wire
deriving DecidableEq, Repr

/-- Why bytes are no instruction. The first five are the ghost codes of 60_exceptions.md R181, in that order. -/
inductive Reject where
  /-- F_SILENCE: no bytes. -/
  | silence
  /-- F_SHORT: one to four bytes. -/
  | short
  /-- F_SYNC: the first byte is not SYNC. -/
  | badSync
  /-- F_LEN: the declared length is not the number of bytes. -/
  | badLength
  /-- F_CRC: the CRC differs from the trailer. -/
  | badCrc
  /-- More bytes than RB holds (R87). -/
  | overrun
  /-- A host access moves exactly one byte (10_state.md R32). -/
  | notOneByte
deriving DecidableEq, Repr

/-- The first failing check of a response, in the order length, SYNC, LEN, CRC (60_exceptions.md R181, R187 (b)). -/
def wireFault (b : List Byte) : Option Reject :=
  if b.length = 0 then some .silence
  else if b.length < Config.minFrame then some .short
  else if Config.rbCap < b.length then some .overrun
  else if Machine.byteAt b 0 ≠ Config.sync then some .badSync
  else if (Machine.byteAt b 2).toNat ≠ b.length then some .badLength
  else if Machine.crc16 (Machine.coveredOf b) ≠ Machine.trailerOf b then some .badCrc
  else none

/-- The row of a command code: match and mask apply to the byte at offset 3, the catch-all row last (R79). -/
def rowOf (cmd : Byte) (f : Frame) : Instr :=
  if cmd = Config.cmdReset then .frameReset f
  else if cmd = Config.cmdPoll then .framePoll f
  else if cmd = Config.cmdStart then .frameStart f
  else if cmd = Config.cmdAck then .frameAck f
  else if cmd = Config.cmdBill then .frameBillEvent f
  else .frameUnexpected cmd f

/-- The operands of a validated frame (R70, R72). -/
def frameOf (b : List Byte) : Frame :=
  if b.length = 5 then .bare (Machine.byteAt b 1)
  else .full (Machine.byteAt b 1) ((b.drop 4).take (b.length - 6))

/-- A response decodes exactly when none of the checks fails (R71, R86). -/
def decodeFrame (b : List Byte) : Except Reject Instr :=
  match wireFault b with
  | some r => .error r
  | none => .ok (rowOf (Machine.byteAt b 3) (frameOf b))

/-- OPREQ[2:0] selects the operation; OPREQ[7:3] is kept in the term and ignored by every meaning (R82 to R84). -/
def decodeOpreq (b : Byte) : Instr :=
  let rsv := b.extractLsb' 3 5
  if b.extractLsb' 0 3 = 0#3 then .init rsv
  else if b.extractLsb' 0 3 = 1#3 then .reset rsv
  else if b.extractLsb' 0 3 = 2#3 then .start rsv
  else if b.extractLsb' 0 3 = 3#3 then .poll rsv
  else .reservedOp rsv (b.extractLsb' 0 2)

/-- The decoder, total on any bytes of either channel. -/
def decode : Channel → List Byte → Except Reject Instr
  | .hostPort, [b] => .ok (decodeOpreq b)
  | .hostPort, _ => .error .notOneByte
  | .wire, b => decodeFrame b

/-- The channel an instruction is decoded on; the codec functions are "not selected by any encoding" (opcode table). -/
def Instr.channel : Instr → Option Channel
  | .init _ => some .hostPort
  | .reset _ => some .hostPort
  | .start _ => some .hostPort
  | .poll _ => some .hostPort
  | .reservedOp _ _ => some .hostPort
  | .frameReset _ => some .wire
  | .framePoll _ => some .wire
  | .frameStart _ => some .wire
  | .frameAck _ => some .wire
  | .frameBillEvent _ => some .wire
  | .frameUnexpected _ _ => some .wire
  | .crc16 _ => none
  | .validate => none
  | .billType => none

/-- An OPREQ byte from its reserved bits and its op code (R82). -/
def opreqByte (rsv : BitVec 5) (op : BitVec 3) : Byte := rsv ++ op

/-- The bytes of an instruction, in the order they are sent or written; none for a codec function. -/
def encode : Instr → List Byte
  | .init rsv => [opreqByte rsv 0]
  | .reset rsv => [opreqByte rsv 1]
  | .start rsv => [opreqByte rsv 2]
  | .poll rsv => [opreqByte rsv 3]
  | .reservedOp rsv code => [opreqByte rsv (1#1 ++ code)]
  | .frameReset f => Machine.frameBytes Config.cmdReset f
  | .framePoll f => Machine.frameBytes Config.cmdPoll f
  | .frameStart f => Machine.frameBytes Config.cmdStart f
  | .frameAck f => Machine.frameBytes Config.cmdAck f
  | .frameBillEvent f => Machine.frameBytes Config.cmdBill f
  | .frameUnexpected cmd f => Machine.frameBytes cmd f
  | .crc16 _ => []
  | .validate => []
  | .billType => []

/-- The `n` bytes of a number, least significant first: byte 0 is the first byte (the table's numbering of bits). -/
def bytesOfNat : Nat → Nat → List Byte
  | 0, _ => []
  | n + 1, w => BitVec.ofNat 8 w :: bytesOfNat n (w / 256)

/-- The frame a one-byte FRAME row of the table stands for (log 16): the fixed frame of R75, R76 and R78, and a bill event
whose one DATA byte is 0. CMD 0x00 is not here: as a table word it is INIT's. -/
def tableFrame (b : Byte) : Option Instr :=
  if b = Config.cmdReset then some (.frameReset (.full Config.addrHost []))
  else if b = Config.cmdPoll then some (.framePoll (.full Config.addrHost []))
  else if b = Config.cmdStart then some (.frameStart (.full Config.addrHost [0, 0, 0xFC, 0, 0, 0]))
  else if b = Config.cmdBill then some (.frameBillEvent (.full Config.addrHost [0]))
  else none

/-- DESIGN CHOICE (log 16): the table gives the rows of both channels one byte and no bit that says which channel. A byte
that is a FRAME row's whole code is read as that frame, every other byte as a write to OPREQ. -/
def tableByte (b : Byte) : Instr := (tableFrame b).getD (decodeOpreq b)

/-- The decoder on a word numbered as spec/opcode_table.json numbers it. One byte is a table row's word; more bytes are a
whole wire frame. -/
def decodeTableWord (nbits w : Nat) : Option Instr :=
  if nbits = 8 then some (tableByte (BitVec.ofNat 8 w))
  else (decodeFrame (bytesOfNat (nbits / 8) w)).toOption

end Sys2Proof
end

