-- ==== Sys2Proof/Machine/Sequencer.lean ====
section
/-! DEFINITION. Machine/Sequencer.lean: the sequencer steps that no row of the opcode table names: OPEN (42_operations.md
R155), COLLECT and DRAIN (41_exchange.md R123, R124) and the timed waits (R126) with their exits (R163 to R166). -/

namespace Sys2Proof.Machine

/-- The OPEN step (R155); `Open` completes in one step and touches neither RXQ nor TXLOG (60_exceptions.md R192). -/
def State.openStep (s : State) : State :=
  let t := { s with openlog := s.openlog ++ [s.par.baud], status := s.status.sawOpen }
  if s.par.initAttempts = 0 then t.finish 0x00 else State.startResetRun { t with iatt := 1 }

/-- Stores one byte at RB[RLEN], in arrival order; the sixteenth byte ends the collection (R123). -/
def State.store (s : State) (b : Byte) (rest : List Byte) (h : s.rlen.val < 16) : State :=
  { s with rb := s.rb.write s.rlen b, rlen := ⟨s.rlen.val + 1, by omega⟩, rxq := rest,
           seq := if s.rlen.val + 1 = Config.rbCap then .drain else .collect }

/-- The COLLECT step: the deadline first, then at most one byte (R123, 60_exceptions.md R187 (a)). A byte for RB[16], which
does not exist, is a fault no run reaches (20_memory.md R68; log 15). -/
def State.collectStep (s : State) : Except Fault State :=
  if s.timeoutFor ≤ s.elapsed then .ok { s with seq := .eval }
  else
    match s.rxq with
    | [] => .ok s
    | b :: rest => if h : s.rlen.val < 16 then .ok (s.store b rest h) else .error .rbOverrun

/-- The DRAIN step: one byte discarded, or on to EVAL; no deadline (R124). -/
def State.drainStep (s : State) : State :=
  match s.rxq with
  | [] => { s with seq := .eval }
  | _ :: rest => { s with rxq := rest }

/-- A wait step of duration `d`: `exit_S()` once the time has elapsed, nothing written before (R126). -/
def State.waitStep (s : State) (d : Nat) (exit : State) : State := if d ≤ s.elapsed then exit else s

/-- `exit_WAIT_RETRY()` (R163). -/
def State.exitRetry (s : State) : State :=
  if s.att < s.par.maxRetry then { s with seq := .txCmd } else s.loopExhausted

/-- `exit_WAIT_RESET_SETTLE()` (R164). -/
def State.exitResetSettle (s : State) : State :=
  match s.opr with
  | .reset => s.finish 0x01
  | .init => s.enterWait .waitInitSettle
  | .start => s
  | .poll => s

/-- `exit_WAIT_INIT_RETRY()` (R165). -/
def State.exitInitRetry (s : State) : State :=
  if s.iatt < s.par.initAttempts then State.startResetRun { s with iatt := s.iatt + 1 } else s.finish 0x00

/-- `exit_WAIT_INIT_SETTLE()` (R166). -/
def State.exitInitSettle (s : State) : State := s.finish 0x01

end Sys2Proof.Machine
end

