-- ==== Sys2Proof/Machine/Fetch.lean ====
section
/-! DEFINITION. Machine/Fetch.lean: which agent acts next (10_state.md R20) and, where its act runs an instruction, which
one: a write to OPREQ (42_operations.md R150), the command frame of a TX_CMD step, the response of an EVAL step, the ACK frame
of a TX_ACK step (41_exchange.md R122, R125, R132). Step.lean only runs what is found here. -/

namespace Sys2Proof.Machine

/-- What the next act comes to. -/
inductive Fetched where
  /-- Instruction `i` runs at state `s`. -/
  | run (i : Instr) (s : State)
  /-- The act runs no instruction and leaves the state `s`. -/
  | done (s : State)
  /-- The machine stops. -/
  | stop (r : Fault)

/-- Takes the next act from the schedule, or a free one when the schedule is empty (log 1). -/
def State.nextAct (s : State) : Config.Event × State :=
  match s.sched with
  | e :: rest => (e, { s with sched := rest })
  | [] => (Config.freeEvent s.drawn, { s with drawn := s.drawn + 1 })

/-- The command frame of an operation as an instruction (R121). -/
def commandInstr : HostOp → Instr
  | .init => .frameReset (.full Config.addrHost [])
  | .reset => .frameReset (.full Config.addrHost [])
  | .start => .frameStart (.full Config.addrHost [0, 0, 0xFC, 0, 0, 0])
  | .poll => .framePoll (.full Config.addrHost [])

/-- The ACK frame as an instruction (R132). -/
def ackInstr : Instr := .frameAck (.full Config.addrHost [])

/-- EVAL: `validate` is evaluated, then a validated response is decoded and run, and a rejected one takes the branch of
v = false (R125). -/
def State.evalFetch (s : State) : Fetched :=
  match decodeFrame s.response with
  | .ok i => .run i s.runValidate
  | .error _ => .done (s.runValidate.evalBranch none)

/-- The block's next step, chosen by SEQ (00_scope.md R16, 10_state.md R23). In IDLE the block does not step. -/
def State.blockFetch (s : State) : Fetched :=
  match s.seq with
  | .idle => .done s
  | .opening => .done s.openStep
  | .txCmd => .run (commandInstr s.opr) s
  | .collect =>
    match s.collectStep with
    | .ok t => .done t
    | .error r => .stop r
  | .drain => .done s.drainStep
  | .eval => s.evalFetch
  | .waitRetry => .done (s.waitStep s.par.tRetry s.exitRetry)
  | .waitResetSettle => .done (s.waitStep s.par.tResetSettle s.exitResetSettle)
  | .waitInitRetry => .done (s.waitStep s.par.tInitRetry s.exitInitRetry)
  | .waitInitSettle => .done (s.waitStep s.par.tInitSettle s.exitInitSettle)
  | .txAck => .run ackInstr s

/-- A host access: a write to OPREQ is an instruction, a write to any other offset is ignored (R29, R30, R32). -/
def State.hostFetch (s : State) : Config.HostAccess → Fetched
  | .write off b => if off = 0 then .run (decodeOpreq b) s else .done s
  | .read off => .done (s.hostRead off)

/-- The act of one agent. Driving RST resets the block when it asserts RST, keeps it asserted, or releases it; driving it
released while it is released already is no reset (70_reset_and_hazards.md R210, 60_exceptions.md R199). While RST is asserted
the block stays at its reset values, so no block step and no host write takes effect and host reads return those values (R210,
60_exceptions.md R187 (e); log 12). -/
def State.actFetch (s : State) : Config.Event → Fetched
  | .rst level => if level || s.rst then .done { s.resetBlock with rst := level } else .done s
  | .block => if s.rst then .done s.resetBlock else s.blockFetch
  | .host (.write off b) => if s.rst then .done s.resetBlock else s.hostFetch (.write off b)
  | .host (.read off) => if s.rst then s.resetBlock.hostFetch (.read off) else s.hostFetch (.read off)
  | .transport accepts => .done { s with txReady := accepts }
  | .peripheral bytes => .done { s with rxq := s.rxq ++ bytes }
  | .clock ms => .done { s with now := s.now + ms }

/-- The next act and what it comes to. -/
def State.fetch (s : State) : Fetched := s.nextAct.2.actFetch s.nextAct.1

/-- Places a byte as the host's next act, a write to OPREQ. -/
def State.placeOpreq (s : State) (b : Byte) : State :=
  { s with rst := false, sched := .host (.write 0 b) :: s.sched }

/-- Places bytes as the response a block step is about to evaluate: RB and RLEN hold it, SEQ is EVAL with an operation in
progress, and the block acts next (41_exchange.md R125). Bytes beyond RB_CAP are left out. -/
def State.placeResponse (s : State) (b : List Byte) : State :=
  { s with rst := false, rb := Memory.writeAll [] 0 (b.take 16), rlen := ⟨(b.take 16).length, by simp⟩,
           seq := .eval, status := s.status.accepted, sched := .block :: s.sched }

end Sys2Proof.Machine
end

