-- ==== Sys2Proof/Machine/Step.lean ====
section
/-! DEFINITION. Machine/Step.lean: one step of the machine, the act of one agent (00_scope.md R16, 10_state.md R20). What
acts and what it runs is Machine/Fetch.lean's; what an instruction does is exec's. -/

namespace Sys2Proof.Machine

/-- Runs what the next act comes to. -/
def Fetched.outcome : Fetched → Host.Outcome State Fault Refusal
  | .run i s => exec i s
  | .done s => .next s
  | .stop r => .fault r

/-- One step. -/
def step (s : State) : Host.Outcome State Fault Refusal := s.fetch.outcome

/-- Places a table word where the next step runs it: a HOSTOP byte as the host's write to OPREQ, a FRAME byte as the
response the block is about to evaluate, a whole frame likewise (logs 16, 20). -/
def State.withFetchWord (s : State) (nbits w : Nat) : State :=
  if nbits = 8 then
    match tableFrame (BitVec.ofNat 8 w) with
    | some i => s.placeResponse (encode i)
    | none => s.placeOpreq (BitVec.ofNat 8 w)
  else s.placeResponse (bytesOfNat (nbits / 8) w)

end Sys2Proof.Machine
end

