-- ==== Sys2Proof/Safety.lean ====
section
/-! DEFINITION. Safety.lean: the terms claims use: a run that broke no host duty, why an attempt failed (ghost values of
60_exceptions.md R181), the invariants every step keeps, and the bytes an operation has sent. -/

namespace Sys2Proof.Machine

/-- No host duty has been broken (10_state.md R37). -/
abbrev State.faultFree (s : State) : Prop := s.fault = none

/-- A successful final state: the operation is over and FAULT is none (R37, 60_exceptions.md R184). -/
abbrev State.successFinal (s : State) : Prop := s.seq = .idle ∧ s.status.done = true ∧ s.faultFree

/-- The ghost codes of 60_exceptions.md R181. -/
inductive FailCause where
  | silence | short | sync | len | crc | cmd
deriving DecidableEq, Repr

/-- Why an attempt of RESET, INIT's RESET loop or START fails on the bytes held at EVAL, or none when it succeeds (R181). -/
def attemptCause (b : List Byte) : Option FailCause :=
  if b.length = 0 then some .silence
  else if b.length < Config.minFrame then some .short
  else if byteAt b 0 ≠ Config.sync then some .sync
  else if (byteAt b 2).toNat ≠ b.length then some .len
  else if crc16 (coveredOf b) ≠ trailerOf b then some .crc
  else if byteAt b 3 ≠ Config.cmdAck then some .cmd
  else none

/-- What EVAL reads of the response in RB: offsets 3 and 4 when `validate` accepts it, nothing otherwise (41_exchange.md R125,
30_encoding.md R80). -/
def State.responseSeen (s : State) : Option Received :=
  if validate s.response then some ⟨byteAt s.response 3, byteAt s.response 4⟩ else none

/-- RB is in canonical form (20_memory.md R50). -/
abbrev State.memoryOk (s : State) : Prop := s.rb.wf = true

/-- Which operations can be in which sequencer state: the states R155 and R164 to R166 give to INIT, R163 and R164 to the
retried operations, R132 to START and POLL. -/
abbrev State.pairOk (s : State) : Prop :=
  (s.seq ∈ [.opening, .waitInitRetry, .waitInitSettle] → s.opr = .init) ∧
  (s.seq = .waitResetSettle → s.opr = .init ∨ s.opr = .reset) ∧
  (s.seq = .waitRetry → s.opr ≠ .poll) ∧
  (s.seq = .txAck → s.opr = .start ∨ s.opr = .poll)

/-- The control part is legal: BUSY says that SEQ is not IDLE, BUSY and DONE are never both set (R29), SEQ and OPR fit, and
RB fills only in COLLECT (R68, 41_exchange.md R123, R124). -/
structure State.ControlOk (s : State) : Prop where
  busy : s.status.busy = true ↔ s.seq ≠ .idle
  done : s.status.busy = true → s.status.done = false
  pair : s.pairOk
  filling : s.seq = .collect → s.rlen.val < 16
  full : s.seq = .drain → s.rlen.val = 16

/-- The counters stay within their limits (10_state.md R25 to R27): ATT counts the frames of the current loop, a loop is left
only when it is used up, T0 has TW bits, and POLL sends once (42_operations.md R172). -/
structure State.CountersOk (s : State) : Prop where
  att : s.opr ≠ .poll → s.att ≤ s.par.maxRetry
  more : s.opr ≠ .poll → s.seq = .txCmd → s.att < s.par.maxRetry
  spent : s.seq = .waitInitRetry → s.att = s.par.maxRetry
  iatt : s.opr = .init → s.iatt ≤ s.par.initAttempts
  started : s.opr = .init → s.seq ≠ .idle → s.seq ≠ .opening → 1 ≤ s.iatt
  t0 : s.t0 < 2 ^ s.par.tw
  fresh : s.seq = .opening → s.att = 0 ∧ s.iatt = 0
  once : s.opr = .poll → s.seq ≠ .idle → s.att = if s.seq = .txCmd then 0 else 1

/-- What the block reports rests on a validated response: while it settles or acknowledges, RB holds the frame that was
accepted (41_exchange.md R132, 42_operations.md R159 to R161). -/
structure State.EvidenceOk (s : State) : Prop where
  settle : s.seq = .waitResetSettle ∨ s.seq = .waitInitSettle →
    validate s.response = true ∧ byteAt s.response 3 = Config.cmdAck
  start : s.seq = .txAck → s.opr = .start → validate s.response = true ∧ byteAt s.response 3 = Config.cmdAck
  poll : s.seq = .txAck → s.opr = .poll →
    validate s.response = true ∧ byteAt s.response 3 = Config.cmdBill ∧ byteAt s.response 4 ≠ 0

/-- While RST is asserted every element of the block holds its reset value (70_reset_and_hazards.md R210). -/
abbrev State.heldInReset (s : State) : Prop := s.rst = true → s.resetBlock = s

/-- `n` copies of a frame. -/
def copies (n : Nat) (f : List Byte) : List Byte := (List.replicate n f).flatten

/-- How many command frames the operation in progress has sent: for INIT, the runs used up before this one and the frames of
this one (10_state.md R25, R26). -/
def State.framesSent (s : State) : Nat :=
  match s.opr with
  | .init => (s.iatt - 1) * s.par.maxRetry + s.att
  | .reset => s.att
  | .start => s.att
  | .poll => s.att

/-- The command frames the operation in progress has sent (41_exchange.md R133). -/
def State.commandsSent (s : State) : List Byte := copies s.framesSent (frameFor s.opr)

/-- The acts of one attempt against a silent peripheral: the command goes out, `resp` ms pass, COLLECT sees the deadline, EVAL
fails the attempt. -/
def silentAttempt (resp : Nat) : List Config.Event := [.block, .clock resp, .block, .block]

/-- `n` further attempts, each preceded by a wait of `retry` ms (42_operations.md R163). -/
def silentRetries (resp retry : Nat) : Nat → List Config.Event
  | 0 => []
  | n + 1 => [.clock retry, .block] ++ silentAttempt resp ++ silentRetries resp retry n

end Sys2Proof.Machine
end

