-- ==== Sys2Proof/Certificates/Slice0/Obligations.lean ====
section
/-! DEFINITION. Certificates/Slice0/Obligations.lean: the statements for the provers. In a statement about a step,
`s.nextAct = (e, u)` says that the next act is `e`, placed or free, and that `u` is the state once the act is taken from the
schedule (log 1); so each holds for every draw of the environment. -/

open Sys2Proof Sys2Proof.Machine

/-! ### Encoding -/

/-- 30_encoding.md §1 to §5: no bit of an encoding is dropped, on either channel. -/
def Obligations.EncodeThenDecode : Prop :=
  ∀ (i : Instr) (c : Channel), i.wf = true → i.channel = some c → decode c (encode i) = .ok i

/-- 30_encoding.md §1 to §5: what decodes is the encoding of a well-formed instruction of that channel, and of no other. -/
def Obligations.DecodeThenEncode : Prop :=
  ∀ (c : Channel) (b : List Byte) (i : Instr),
    decode c b = .ok i → encode i = b ∧ i.wf = true ∧ i.channel = some c

/-- Words written out from R75 to R78, R81 to R84, R72 and 95_test_vectors.md §2.2. That the LEN 5 frame `02 03 05 7D C8` is
read as an unexpected command 0x7D, its CRC_LO, is the model's reading of R72 (DEDUCED, log 21). -/
def Obligations.SpecWordsDecode : Prop :=
  decode .hostPort [0x00] = .ok (.init 0) ∧ decode .hostPort [0x01] = .ok (.reset 0) ∧
  decode .hostPort [0x02] = .ok (.start 0) ∧ decode .hostPort [0x03] = .ok (.poll 0) ∧
  decode .hostPort [0xF9] = .ok (.reset 31) ∧ decode .hostPort [0x05] = .ok (.reservedOp 0 1) ∧
  decode .wire [0x02, 0x03, 0x06, 0x30, 0x41, 0xB3] = .ok (.frameReset (.full 0x03 [])) ∧
  decode .wire [0x02, 0x03, 0x06, 0x33, 0xDA, 0x81] = .ok (.framePoll (.full 0x03 [])) ∧
  decode .wire [0x02, 0x03, 0x06, 0x00, 0xC2, 0x82] = .ok (.frameAck (.full 0x03 [])) ∧
  decode .wire [0x02, 0x03, 0x0C, 0x34, 0x00, 0x00, 0xFC, 0x00, 0x00, 0x00, 0x08, 0xEC] =
    .ok (.frameStart (.full 0x03 [0x00, 0x00, 0xFC, 0x00, 0x00, 0x00])) ∧
  decode .wire [0x02, 0x03, 0x07, 0x81, 0x03, 0xCF, 0x18] = .ok (.frameBillEvent (.full 0x03 [0x03])) ∧
  decode .wire [0x02, 0x03, 0x06, 0xFF, 0xBA, 0x8D] = .ok (.frameUnexpected 0xFF (.full 0x03 [])) ∧
  decode .wire [0x02, 0x03, 0x05, 0x7D, 0xC8] = .ok (.frameUnexpected 0x7D (.bare 0x03)) ∧
  decode .wire [0x02, 0x03, 0x06, 0x00, 0x82, 0xC2] = .error .badCrc

/-- 30_encoding.md R72 (its closing remark, which the spec derives): a LEN 5 frame is never an ACK and never a bill event.
-/
def Obligations.ShortestFrameIsNeverAckOrBill : Prop :=
  ∀ addr : Byte, (Instr.frameAck (.bare addr)).wf = false ∧ (Instr.frameBillEvent (.bare addr)).wf = false

/-- 40_codec.md §2: of the buffers RB can hold, the decoder takes exactly those `validate` accepts. -/
def Obligations.DecoderAcceptsWhatValidateAccepts : Prop :=
  ∀ b : List Byte, b.length ≤ 16 → (validate b = true ↔ ∃ i, decode .wire b = .ok i)

/-! ### CRC unit and validator -/

/-- R103 (a), which the spec derives: the table form. -/
def Obligations.CrcByteTableForm : Prop :=
  ∀ (acc : Word16) (b : Byte), crcByte acc b = (acc >>> 8) ^^^ crcByte 0 (loByte acc ^^^ b)

/-- R103 (b), which the spec derives: a message followed by its own CRC has residue 0. -/
def Obligations.CrcResidueIsZero : Prop :=
  ∀ m : List Byte, crc16 (m ++ [loByte (crc16 m), hiByte (crc16 m)]) = 0

/-- R103 (c), which the spec derives: linearity over XOR. -/
def Obligations.CrcIsLinear : Prop :=
  ∀ x y : List Byte, x.length = y.length → crc16 (List.zipWith (· ^^^ ·) x y) = crc16 x ^^^ crc16 y

/-- R109, which the spec derives: coverage from ADDR with initial value 0x2312 accepts exactly the same buffers. -/
def Obligations.ValidateFromAddrWithSeed : Prop :=
  ∀ b : List Byte, validate b = (headerOk b && crcFrom 0x2312 ((coveredOf b).drop 1) == trailerOf b)

/-- R110, which the spec derives for the source's frames, for every frame: one flipped bit makes a valid response invalid.
-/
def Obligations.SingleBitErrorIsRejected : Prop :=
  ∀ (b : List Byte) (i k : Nat), validate b = true → i < b.length → k < 8 →
    validate (b.set i (byteAt b i ^^^ (1#8 <<< k))) = false

/-- R106: ADDR, CMD and DATA may have any values. -/
def Obligations.ValidateChecksNoAddrCmdOrData : Prop :=
  (∀ (addr cmd : Byte) (data : List Byte), data.length ≤ 10 → validate (frameBytes cmd (.full addr data)) = true) ∧
  (∀ addr cmd : Byte, validate (frameBytes cmd (.bare addr)) = true)

/-- R100 to R102: CRC_INIT, no final XOR, one byte at a time, eight bit steps to a byte, the low bit choosing the XOR. -/
def Obligations.CrcAlgorithm : Prop :=
  crc16 [] = 0x0000 ∧
  (∀ (d : List Byte) (b : Byte), crc16 (d ++ [b]) = crcByte (crc16 d) b) ∧
  (∀ (acc : Word16) (b : Byte),
    crcByte acc b = crcBit (crcBit (crcBit (crcBit (crcBit (crcBit (crcBit (crcBit (acc ^^^ b.setWidth 16))))))))) ∧
  (∀ acc : Word16, crcBit acc = if acc.getLsbD 0 then (acc >>> 1) ^^^ 0x8408 else acc >>> 1)

/-- 40_codec.md §1: the CRC16 row leaves the CRC of its operand, of any length, on ACC and changes nothing else. That the
result stands on ACC is the model's choice (log 7). -/
def Obligations.CrcUnitComputesCrc16 : Prop :=
  ∀ (d : List Byte) (s : State), exec (.crc16 d) s = .next { s with acc := crc16 d }

/-- 40_codec.md §2: the four checks of R104, over the cells of RB. Nothing changes but ACC (the model's choice, log 7) and
the output wire that shows the result (the model's own, log 10). -/
def Obligations.ValidateMakesFourChecks : Prop :=
  ∀ s : State, ∃ t, exec .validate s = .next t ∧
    (t.codec.valid = true ↔
      5 ≤ s.rlen.val ∧ s.rb.read 0 = 0x02 ∧ (s.rb.read 2).toNat = s.rlen.val ∧
      crc16 (s.rb.bytes 0 (s.rlen.val - 2)) = catBytes (s.rb.read (s.rlen.val - 1)) (s.rb.read (s.rlen.val - 2))) ∧
    { t with acc := s.acc, codec := { t.codec with valid := s.codec.valid } } = s

/-- 40_codec.md §2 (R107, R108): on a validated buffer the BILL_TYPE row gives RB[4] when RB[3] is 0x81 and none otherwise,
and without that premise it is refused. The output wire that shows the result is the model's own (log 10). -/
def Obligations.BillTypeReadsByteFour : Prop :=
  ∀ s : State,
    (validate s.response = true →
      exec .billType s =
        .next { s with codec := { s.codec with bill := if s.rb.read 3 = 0x81 then some (s.rb.read 4) else none } }) ∧
    (validate s.response = false → exec .billType s = .refused .billTypeUnvalidated)

/-! ### Host operations -/

/-- R150 to R153: a write to OPREQ, every code and every branch: busy first, then a reserved code, then an operation before
INIT. The bits `r` have no effect. -/
def Obligations.HostRequestRules : Prop :=
  ∀ (s : State) (r : BitVec 5) (c : BitVec 2),
    (decodeOpreq (r ++ 0b000#3) = .init r ∧ decodeOpreq (r ++ 0b001#3) = .reset r ∧
      decodeOpreq (r ++ 0b010#3) = .start r ∧ decodeOpreq (r ++ 0b011#3) = .poll r ∧
      decodeOpreq (r ++ (0b1#1 ++ c)) = .reservedOp r c) ∧
    (s.status.busy = true →
      ∀ i ∈ [Instr.init r, .reset r, .start r, .poll r, .reservedOp r c],
        exec i s = .next { s with fault := some (s.fault.getD .hostBusy) }) ∧
    (s.status.busy = false →
      exec (.reservedOp r c) s =
        .next { s with fault := some (s.fault.getD .badOp), status := { s.status with badop := true } } ∧
      exec (.init r) s =
        .next { s with opr := .init, att := 0, iatt := 0, seq := .opening, status := ⟨true, false, false, s.status.opened⟩ } ∧
      exec (.poll r) s =
        .next { s with opr := .poll, att := 0, iatt := 0, seq := .txCmd, status := ⟨true, false, false, s.status.opened⟩,
                       fault := if s.status.opened then s.fault else some (s.fault.getD .notOpened) } ∧
      ∀ p ∈ [(Instr.reset r, HostOp.reset), (.start r, .start)],
        exec p.1 s =
          .next { s with
            opr := p.2, att := 0, iatt := 0,
            seq := if s.par.maxRetry = 0 then .idle else .txCmd,
            status := if s.par.maxRetry = 0 then ⟨false, true, false, s.status.opened⟩
              else ⟨true, false, false, s.status.opened⟩,
            result := if s.par.maxRetry = 0 then 0x00 else s.result,
            fault := if s.status.opened then s.fault else some (s.fault.getD .notOpened) })

/-- R84: OPREQ[7:3] is ignored. -/
def Obligations.OpreqHighBitsAreIgnored : Prop :=
  ∀ (b : Byte) (s : State), exec (decodeOpreq b) s = exec (decodeOpreq (b &&& 0x07)) s

/-- Frame of the HOSTOP rows (R150 to R153): they answer a next state, and touch only SEQ, OPR, ATT, IATT, STATUS, RESULT
and FAULT; OPENED and, but for a request that finishes at once, RESULT are kept, and no frame is sent. -/
def Obligations.HostRequestFrame : Prop :=
  ∀ (s : State) (r : BitVec 5) (c : BitVec 2), ∀ i ∈ [Instr.init r, .reset r, .start r, .poll r, .reservedOp r c],
    ∃ t, exec i s = .next t ∧ (∀ a, t.rb.read a = s.rb.read a) ∧
      { t with seq := s.seq, opr := s.opr, att := s.att, iatt := s.iatt, status := s.status, result := s.result,
               fault := s.fault } = s ∧
      t.status.opened = s.status.opened ∧ (s.par.maxRetry ≠ 0 → t.result = s.result)

/-! ### Wire commands -/

/-- 41_exchange.md §2 (R122 with the frames of R75, R76 and R78): the TX_CMD step sends the fixed frame of the operation, or
holds. That T0 holds the time modulo 2^TW is deduced (10_state.md R27; log 19). -/
def Obligations.CommandFrameIsSent : Prop :=
  ∀ s : State, s.seq = .txCmd →
    ∀ p ∈ [(HostOp.init, Instr.frameReset (.full 0x03 []), [0x02, 0x03, 0x06, 0x30, 0x41, 0xB3]),
           (.reset, .frameReset (.full 0x03 []), [0x02, 0x03, 0x06, 0x30, 0x41, 0xB3]),
           (.poll, .framePoll (.full 0x03 []), [0x02, 0x03, 0x06, 0x33, 0xDA, 0x81]),
           (.start, .frameStart (.full 0x03 [0x00, 0x00, 0xFC, 0x00, 0x00, 0x00]),
             [0x02, 0x03, 0x0C, 0x34, 0x00, 0x00, 0xFC, 0x00, 0x00, 0x00, 0x08, 0xEC])],
      s.opr = p.1 →
        (s.txReady = true →
          exec p.2.1 s =
            .next { s with txlog := s.txlog ++ p.2.2, att := s.att + 1, rlen := 0, t0 := s.now % 2 ^ s.par.tw,
                           seq := .collect }) ∧
        (s.txReady = false → exec p.2.1 s = .next s)

/-- 41_exchange.md §2 (R132 with the frame of R77): the TX_ACK step sends ACK and finishes with 0x01 for START and with
RB[4] for POLL, or holds. -/
def Obligations.AckFrameIsSent : Prop :=
  ∀ s : State, s.seq = .txAck → s.opr = .start ∨ s.opr = .poll →
    (s.txReady = true →
      exec (.frameAck (.full 0x03 [])) s =
        .next { s with txlog := s.txlog ++ [0x02, 0x03, 0x06, 0x00, 0xC2, 0x82], seq := .idle,
                       result := if s.opr = .start then 0x01 else s.rb.read 4,
                       status := { s.status with busy := false, done := true } }) ∧
    (s.txReady = false → exec (.frameAck (.full 0x03 [])) s = .next s)

/-- 42_operations.md §3 (R159 where v is true): EVAL of a validated response in RESET's loop; only an ACK leads on. What
`attemptFailed` does is the statement FailedAttemptRules. That T0 holds the time modulo 2^TW is deduced (10_state.md R27;
log 19). -/
def Obligations.ResetAcceptsOnlyAck : Prop :=
  ∀ (s : State) (f : Frame) (cmd : Byte), s.seq = .eval → s.opr = .init ∨ s.opr = .reset →
    ((Instr.frameAck f).wf = true →
      exec (.frameAck f) s = .next { s with t0 := s.now % 2 ^ s.par.tw, seq := .waitResetSettle }) ∧
    ∀ i ∈ [Instr.frameReset f, .framePoll f, .frameStart f, .frameBillEvent f, .frameUnexpected cmd f],
      i.wf = true → exec i s = .next s.attemptFailed

/-- 42_operations.md §3 (R160 where v is true): EVAL of a validated response in START's loop. -/
def Obligations.StartAcceptsOnlyAck : Prop :=
  ∀ (s : State) (f : Frame) (cmd : Byte), s.seq = .eval → s.opr = .start →
    ((Instr.frameAck f).wf = true → exec (.frameAck f) s = .next { s with seq := .txAck }) ∧
    ∀ i ∈ [Instr.frameReset f, .framePoll f, .frameStart f, .frameBillEvent f, .frameUnexpected cmd f],
      i.wf = true → exec i s = .next s.attemptFailed

/-- 42_operations.md §3 (R161 where v is true): EVAL of a validated response in POLL: a bill event whose byte 4 is not 0
goes to TX_ACK, everything else is no event. The output wire of `bill_type` is the model's own (log 10). -/
def Obligations.PollReportsNonzeroBillOnly : Prop :=
  ∀ (s : State) (f : Frame) (cmd : Byte), s.seq = .eval → s.opr = .poll →
    ((Instr.frameBillEvent f).wf = true →
      exec (.frameBillEvent f) s =
        .next (let d := byteAt (encode (.frameBillEvent f)) 4
          let t := { s with codec := { s.codec with bill := some d } }
          if d ≠ 0x00 then { t with seq := .txAck }
          else { t with result := 0x00, seq := .idle, status := { s.status with busy := false, done := true } })) ∧
    ∀ i ∈ [Instr.frameReset f, .framePoll f, .frameStart f, .frameAck f, .frameUnexpected cmd f],
      i.wf = true →
        exec i s =
          .next { s with codec := { s.codec with bill := none }, result := 0x00, seq := .idle,
                         status := { s.status with busy := false, done := true } }

/-- 42_operations.md §4 (R162, R168): a failed attempt waits for the next one, or ends the loop: START and RESET finish with
0x00, INIT waits for its next run or finishes with 0x00. That T0 holds the time modulo 2^TW is deduced (10_state.md R27; log
19). -/
def Obligations.FailedAttemptRules : Prop :=
  ∀ s : State, s.opr ≠ .poll →
    s.attemptFailed =
      if s.att < s.par.maxRetry ∨ s.par.delayAfterFinal = true then { s with t0 := s.now % 2 ^ s.par.tw, seq := .waitRetry }
      else if s.opr = .init ∧ (s.iatt < s.par.initAttempts ∨ s.par.delayAfterFinal = true) then
        { s with t0 := s.now % 2 ^ s.par.tw, seq := .waitInitRetry }
      else { s with result := 0x00, seq := .idle, status := { s.status with busy := false, done := true } }

/-- Frame of the FRAME rows (R122, R125, R132): in every state and for every operand they answer a next state and touch only
SEQ, ATT, RLEN, T0, STATUS, RESULT, TXLOG and the output wire of `bill_type` (log 10); RB is never written; outside TX_CMD
the counters and RLEN are kept, and only TX_CMD and TX_ACK write TXLOG. That a FRAME row outside TX_CMD, EVAL and TX_ACK
answers a next state, and has no effect there, is the model's inference (DEDUCED, log 13). -/
def Obligations.WireCommandFrame : Prop :=
  ∀ (s : State) (f : Frame) (cmd : Byte),
    ∀ i ∈ [Instr.frameReset f, .framePoll f, .frameStart f, .frameAck f, .frameBillEvent f, .frameUnexpected cmd f],
      ∃ t, exec i s = .next t ∧ (∀ a, t.rb.read a = s.rb.read a) ∧
        { t with seq := s.seq, att := s.att, rlen := s.rlen, t0 := s.t0, status := s.status, result := s.result,
                 txlog := s.txlog, codec := { t.codec with bill := s.codec.bill } } = s ∧
        t.status.opened = s.status.opened ∧ t.status.badop = s.status.badop ∧
        (s.seq ≠ .txCmd → t.att = s.att ∧ t.rlen = s.rlen) ∧
        (s.seq ≠ .txCmd → s.seq ≠ .txAck → t.txlog = s.txlog) ∧
        (s.seq ≠ .txCmd → s.seq ≠ .eval → s.seq ≠ .txAck → t = s)

/-! ### Steps of the machine -/

/-- A step runs the decoded instruction: a write to OPREQ, the command of a TX_CMD step, the response of an EVAL step once
the VALIDATE row has run, and the ACK of a TX_ACK step. -/
def Obligations.StepRunsDecodedInstruction : Prop :=
  ∀ (s u : State) (e : Config.Event) (i : Instr), s.nextAct = (e, u) → u.rst = false →
    (∀ b, e = .host (.write 0 b) → decode .hostPort [b] = .ok i → step s = exec i u) ∧
    (e = .block → u.seq = .eval → decode .wire u.response = .ok i →
      exec .validate u = .next u.runValidate ∧ step s = exec i u.runValidate) ∧
    (e = .block → u.seq = .txCmd → decode .wire (frameFor u.opr) = .ok i → step s = exec i u) ∧
    (e = .block → u.seq = .txAck → decode .wire ackFrame = .ok i → step s = exec i u)

/-- 42_operations.md §3 (R159 and R160, both values of v) with the causes of 60_exceptions.md R181: at EVAL of RESET, INIT
or START an attempt succeeds exactly when `validate` accepts the response and RB[3] is 0x00, which is when none of the six
causes holds. What ACC and the codec's output wires hold is not stated (logs 7, 10). That T0 holds the time modulo 2^TW is
deduced (10_state.md R27; log 19). -/
def Obligations.AttemptFailsExactlyOnACause : Prop :=
  ∀ s u : State, s.nextAct = (.block, u) → u.rst = false → u.seq = .eval → u.opr ≠ .poll →
    (attemptCause u.response = none ↔ validate u.response = true ∧ u.rb.read 3 = 0x00) ∧
    ∃ t, step s = .next t ∧
      { t with acc := u.acc, codec := u.codec } =
        if attemptCause u.response ≠ none then u.attemptFailed
        else if u.opr = .start then { u with seq := .txAck }
        else { u with t0 := u.now % 2 ^ u.par.tw, seq := .waitResetSettle }

/-- R161, both values of v: the EVAL step of POLL. What ACC and the codec's output wires hold is not stated (logs 7, 10). -/
def Obligations.PollEvalStepRule : Prop :=
  ∀ s u : State, s.nextAct = (.block, u) → u.rst = false → u.seq = .eval → u.opr = .poll →
    ∃ t, step s = .next t ∧
      { t with acc := u.acc, codec := u.codec } =
        if validate u.response = true ∧ u.rb.read 3 = 0x81 ∧ u.rb.read 4 ≠ 0x00 then { u with seq := .txAck }
        else { u with result := 0x00, seq := .idle, status := { u.status with busy := false, done := true } }

/-- 42_operations.md §2 (R155) with the branches of R167 and R168 for INIT's first run: the OPEN step. That T0 holds the
time modulo 2^TW is deduced (10_state.md R27; log 19). -/
def Obligations.OpenStepRule : Prop :=
  ∀ s u : State, s.nextAct = (.block, u) → u.rst = false → u.seq = .opening → u.opr = .init →
    step s = .next (
      let t := { u with openlog := u.openlog ++ [u.par.baud], status := { u.status with opened := true } }
      if u.par.initAttempts = 0 then
        { t with result := 0x00, seq := .idle, status := ⟨false, true, u.status.badop, true⟩ }
      else if u.par.maxRetry ≠ 0 then { t with iatt := 1, att := 0, seq := .txCmd }
      else if 1 < u.par.initAttempts ∨ u.par.delayAfterFinal = true then
        { t with iatt := 1, att := 0, t0 := u.now % 2 ^ u.par.tw, seq := .waitInitRetry }
      else { t with iatt := 1, att := 0, result := 0x00, seq := .idle, status := ⟨false, true, u.status.badop, true⟩ })

/-- R123, with the timeout column of the table of R121: the COLLECT step: the deadline first, then one byte stored at RB[RLEN]
and no other cell touched, then nothing. -/
def Obligations.CollectStepRule : Prop :=
  ∀ s u : State, s.nextAct = (.block, u) → u.rst = false → u.seq = .collect →
    (u.opr = .init ∨ u.opr = .reset → u.timeoutFor = u.par.tResetResp) ∧
    (u.opr = .start ∨ u.opr = .poll → u.timeoutFor = u.par.tResp) ∧
    (u.timeoutFor ≤ u.elapsed → step s = .next { u with seq := .eval }) ∧
    (u.elapsed < u.timeoutFor → u.rxq = [] → step s = .next u) ∧
    (∀ b q, u.elapsed < u.timeoutFor → u.rxq = b :: q → u.rlen.val < 16 → u.rb.wf = true →
      ∃ t, step s = .next t ∧ t.rb.read u.rlen = b ∧ (∀ a, a ≠ u.rlen.val → t.rb.read a = u.rb.read a) ∧
        t.rlen.val = u.rlen.val + 1 ∧ t.rxq = q ∧ t.seq = (if u.rlen.val + 1 = 16 then .drain else .collect) ∧
        { t with rb := u.rb, rlen := u.rlen, rxq := u.rxq, seq := u.seq } = u)

/-- R124: the DRAIN step. -/
def Obligations.DrainStepRule : Prop :=
  ∀ s u : State, s.nextAct = (.block, u) → u.rst = false → u.seq = .drain →
    (u.rxq = [] → step s = .next { u with seq := .eval }) ∧ (∀ b q, u.rxq = b :: q → step s = .next { u with rxq := q })

/-- 42_operations.md §4 (R163 to R166) with the wait of 41_exchange.md R126 and the branches of R167 and R168: a wait writes
nothing before its time, and its exit is the rule's. That T0 holds the time modulo 2^TW is deduced (10_state.md R27; log
19). -/
def Obligations.WaitStepRules : Prop :=
  ∀ s u : State, s.nextAct = (.block, u) → u.rst = false → u.pairOk →
    (u.seq = .waitRetry → step s = .next (
      if u.elapsed < u.par.tRetry then u
      else if u.att < u.par.maxRetry then { u with seq := .txCmd }
      else if u.opr = .init ∧ (u.iatt < u.par.initAttempts ∨ u.par.delayAfterFinal = true) then
        { u with t0 := u.now % 2 ^ u.par.tw, seq := .waitInitRetry }
      else { u with result := 0x00, seq := .idle, status := { u.status with busy := false, done := true } })) ∧
    (u.seq = .waitResetSettle → step s = .next (
      if u.elapsed < u.par.tResetSettle then u
      else if u.opr = .init then { u with t0 := u.now % 2 ^ u.par.tw, seq := .waitInitSettle }
      else { u with result := 0x01, seq := .idle, status := { u.status with busy := false, done := true } })) ∧
    (u.seq = .waitInitRetry → step s = .next (
      if u.elapsed < u.par.tInitRetry then u
      else if u.iatt < u.par.initAttempts then
        (if u.par.maxRetry ≠ 0 then { u with iatt := u.iatt + 1, att := 0, seq := .txCmd }
        else if u.iatt + 1 < u.par.initAttempts ∨ u.par.delayAfterFinal = true then
          { u with iatt := u.iatt + 1, att := 0, t0 := u.now % 2 ^ u.par.tw, seq := .waitInitRetry }
        else { u with iatt := u.iatt + 1, att := 0, result := 0x00, seq := .idle,
                      status := { u.status with busy := false, done := true } })
      else { u with result := 0x00, seq := .idle, status := { u.status with busy := false, done := true } })) ∧
    (u.seq = .waitInitSettle → step s = .next (
      if u.elapsed < u.par.tInitSettle then u
      else { u with result := 0x01, seq := .idle, status := { u.status with busy := false, done := true } }))

/-- 10_state.md §3 (R29 to R32): what a host read returns, and that only a write to OPREQ has an effect. That the byte
returned is recorded is the model's choice (log 11). -/
def Obligations.HostRegisterMap : Prop :=
  ∀ (s u : State) (off : BitVec 2) (b : Byte), u.rst = false →
    (s.nextAct = (.host (.read off), u) →
      step s = .next { u with rdlog := u.rdlog ++ [
        if off = 1 then
          (if u.status.busy then 0x01 else 0x00) + (if u.status.done then 0x02 else 0x00) +
            (if u.status.badop then 0x04 else 0x00) + (if u.status.opened then 0x08 else 0x00)
        else if off = 2 then u.result else 0x00] }) ∧
    (s.nextAct = (.host (.write off b), u) → off ≠ 0 → step s = .next u)

/-- 70_reset_and_hazards.md §1 (R210, with the values of R38): an act that asserts RST, keeps it asserted or releases it
takes precedence, gives every element the value R38 states and does not touch the environment. The values of OPR, RB, T0 and
ACC, which R38 leaves unspecified, are not stated. That driving RST released while it is released already changes nothing is
deduced (log 12). -/
def Obligations.ResetInputRule : Prop :=
  ∀ (s u : State) (level : Bool), s.nextAct = (.rst level, u) →
    (level = true ∨ u.rst = true →
      ∃ t, step s = .next t ∧ t.rst = level ∧ t.seq = .idle ∧ t.att = 0 ∧ t.iatt = 0 ∧ t.rlen = 0 ∧
        t.status.toByte = 0x00 ∧ t.result = 0x00 ∧ t.rxq = u.rxq ∧ t.txlog = u.txlog ∧ t.openlog = u.openlog ∧
        t.now = u.now ∧ t.fault = u.fault ∧ t.par = u.par) ∧
    (level = false → u.rst = false → step s = .next u)

/-- R211: the state after reset. -/
def Obligations.ResetStateIsIdle : Prop :=
  State.reset.seq = .idle ∧ State.reset.status.toByte = 0x00 ∧ State.reset.status.opened = false ∧
  State.reset.result = 0x00 ∧ State.reset.att = 0 ∧ State.reset.iatt = 0 ∧ State.reset.rlen = 0 ∧ State.reset.fault = none

/-- 60_exceptions.md §3 (R191): with T0 taken at time n, Elapsed is the true elapsed time as long as that is below 2^TW ms.
-/
def Obligations.ElapsedIsTrueTime : Prop :=
  ∀ (s : State) (n : Nat), s.t0 = n % 2 ^ s.par.tw → n ≤ s.now →
    s.elapsed = (s.now - n) % 2 ^ s.par.tw ∧ (s.now - n < 2 ^ s.par.tw → s.elapsed = s.now - n)

/-! ### Invariants every step keeps -/

/-- The reset state meets every invariant below. -/
def Obligations.ResetMeetsInvariants : Prop :=
  State.reset.memoryOk ∧ State.reset.ControlOk ∧ State.reset.CountersOk ∧ State.reset.EvidenceOk ∧
  State.reset.heldInReset

/-- Every step keeps RB in canonical form, with no cell outside the 16 addresses of R50. -/
def Obligations.StepKeepsMemoryCanonical : Prop :=
  ∀ s t : State, s.memoryOk → step s = .next t → t.memoryOk

/-- Every step keeps the control part legal (R23, R29, R68, R132, R163 to R166). -/
def Obligations.StepKeepsControlLegal : Prop :=
  ∀ s t : State, s.ControlOk → step s = .next t → t.ControlOk

/-- Every step keeps the counters within their limits (R25 to R27, R172). -/
def Obligations.StepKeepsCountersInLimits : Prop :=
  ∀ s t : State, s.ControlOk → s.CountersOk → step s = .next t → t.CountersOk

/-- Success is only ever reported on a validated response that is still in RB (R132, R159 to R161, R164, R166): the evidence
is kept by every step, and a step that ends an operation with a result other than 0x00 starts in a state the evidence
covers, with the result that RB backs: 0x01 on an ACK, or POLL's denomination, byte 4 of a bill event. -/
def Obligations.StepKeepsEvidenceOfSuccess : Prop :=
  ∀ s t : State, s.EvidenceOk → step s = .next t →
    t.EvidenceOk ∧
    (s.seq ≠ .idle → t.seq = .idle → t.result ≠ 0x00 →
      t.status.done = true ∧ t.response = s.response ∧ validate t.response = true ∧
      ((t.result = 0x01 ∧ byteAt t.response 3 = 0x00 ∧
          (s.seq = .waitResetSettle ∨ s.seq = .waitInitSettle ∨ (s.seq = .txAck ∧ s.opr = .start))) ∨
        (t.result = byteAt t.response 4 ∧ byteAt t.response 3 = 0x81 ∧ s.seq = .txAck ∧ s.opr = .poll)))

/-- While RST is asserted no step moves the block from its reset values (R210, R187 (e)); the values R38 leaves unspecified
are the model's (log 12). -/
def Obligations.StepKeepsBlockInReset : Prop :=
  ∀ s t : State, s.heldInReset → step s = .next t → t.heldInReset

/-- R180, R188: from a state with a legal control part every step, whatever the environment does, answers a next state. -/
def Obligations.StepNeverStops : Prop :=
  ∀ s : State, s.ControlOk → ∃ t, step s = .next t

/-! ### Whole-machine rules -/

/-- R184, R37: FAULT is never cleared or replaced, and only a write to OPREQ sets it. -/
def Obligations.FaultIsStickyAndOnlyHostSetsIt : Prop :=
  ∀ s t : State, step s = .next t →
    (∀ c, s.fault = some c → t.fault = some c) ∧
    (s.fault = none → t.fault ≠ none → ∃ b, s.nextAct.1 = .host (.write 0 b))

/-- R62 and R190 (a): what has been sent and opened stays in the logs, and the clock never goes back. That host reads are
recorded in rdlog is the model's choice (log 11), and so is that the parameters stand in the state, where no step changes
them (log 2). -/
def Obligations.LogsGrowAndClockIsMonotonic : Prop :=
  ∀ s t : State, step s = .next t →
    s.txlog <+: t.txlog ∧ s.openlog <+: t.openlog ∧ s.rdlog <+: t.rdlog ∧ s.now ≤ t.now ∧ t.par = s.par

/-- R65, R193: whatever is sent is one whole fixed frame, sent by a TX_CMD or TX_ACK step of the block, and only while the
transport accepts. -/
def Obligations.OnlyFixedFramesAreSent : Prop :=
  ∀ s t : State, step s = .next t → t.txlog ≠ s.txlog →
    s.nextAct.1 = .block ∧ s.txReady = true ∧
    ((s.seq = .txCmd ∧ t.txlog = s.txlog ++ frameFor s.opr) ∨
     (s.seq = .txAck ∧ t.txlog = s.txlog ++ [0x02, 0x03, 0x06, 0x00, 0xC2, 0x82]))

/-- R127, R194: RXQ changes only when the peripheral appends to its tail or a COLLECT or DRAIN step takes its oldest byte;
it is never flushed. -/
def Obligations.ReceiveQueueIsNeverFlushed : Prop :=
  ∀ s t : State, step s = .next t →
    t.rxq = s.rxq ∨ (∃ bs, s.nextAct.1 = .peripheral bs ∧ t.rxq = s.rxq ++ bs) ∨
    (s.nextAct.1 = .block ∧ (s.seq = .collect ∨ s.seq = .drain) ∧ ∃ b, s.rxq = b :: t.rxq)

/-- R30, R63, R176: apart from RST, RESULT changes only in a step that also sets DONE and ends the operation. -/
def Obligations.ResultChangesOnlyWithDone : Prop :=
  ∀ s t : State, s.rst = false → s.nextAct.1 ≠ .rst true → step s = .next t → t.result ≠ s.result →
    t.status.done = true ∧ t.status.busy = false ∧ t.seq = .idle

/-- R21, R50: apart from RST, only a COLLECT step of the block writes RB, and only the cell RB[RLEN], one of the sixteen. -/
def Obligations.OnlyCollectWritesTheBuffer : Prop :=
  ∀ s t : State, s.rst = false → s.nextAct.1 ≠ .rst true → step s = .next t → t.rb ≠ s.rb →
    s.nextAct.1 = .block ∧ s.seq = .collect ∧ s.rlen.val < 16 ∧ ∃ b, s.rxq = b :: t.rxq ∧ t.rb = s.rb.write s.rlen b

/-! ### What an operation sends -/

/-- R133: while an operation is in progress TXLOG is what it was when the operation began, and then the operation's command
frames, as many as ATT and IATT say. -/
def Obligations.OperationSendsCountedFrames : Prop :=
  ∀ (s t : State) (base : List Byte), s.ControlOk → s.CountersOk → s.seq ≠ .idle →
    s.txlog = base ++ s.commandsSent → step s = .next t → t.seq ≠ .idle → t.txlog = base ++ t.commandsSent

/-- R169, R172, R182: when an operation ends other than by RST, it has sent its command frames and at most one ACK. POLL has
sent one POLL frame, and an ACK exactly when it reports a denomination. START has sent an ACK exactly when it succeeds. A
RESET or START that fails has used up MAX_RETRY frames, an INIT that fails INIT_ATTEMPTS times MAX_RETRY. -/
def Obligations.FinishedOperationSendCounts : Prop :=
  ∀ (s t : State) (base : List Byte), s.ControlOk → s.CountersOk → s.EvidenceOk → s.seq ≠ .idle →
    s.txlog = base ++ s.commandsSent → step s = .next t → t.seq = .idle → t.status.done = true →
    (s.opr = .poll → t.txlog = base ++ pollFrame ++ if t.result = 0 then [] else ackFrame) ∧
    (s.opr = .start →
      (t.result = 0x01 ∧ ∃ n, n ≤ s.par.maxRetry ∧ t.txlog = base ++ copies n startFrame ++ ackFrame) ∨
      (t.result = 0x00 ∧ t.txlog = base ++ copies s.par.maxRetry startFrame)) ∧
    (s.opr = .reset →
      (t.result = 0x01 ∧ ∃ n, n ≤ s.par.maxRetry ∧ t.txlog = base ++ copies n resetFrame) ∨
      (t.result = 0x00 ∧ t.txlog = base ++ copies s.par.maxRetry resetFrame)) ∧
    (s.opr = .init →
      (t.result = 0x01 ∧ ∃ n, n ≤ s.par.initAttempts * s.par.maxRetry ∧ t.txlog = base ++ copies n resetFrame) ∨
      (t.result = 0x00 ∧ t.txlog = base ++ copies (s.par.initAttempts * s.par.maxRetry) resetFrame))

/-- R169, first item, on one fixed schedule for each MAX_RETRY, in which each write is accepted at once, the clock advances
by exactly each timeout and each delay, and no delay follows the last attempt: RESET against a silent peripheral sends
exactly MAX_RETRY RESET frames and finishes with 0x00, for all timing parameters below 2^TW (R218). What every schedule
gives is the statement FinishedOperationSendCounts. -/
def Obligations.SilentResetSendsMaxRetryFrames : Prop :=
  ∀ (s : State) (m : Nat), s.rst = false → s.seq = .txCmd → s.opr = .reset → s.att = 0 → s.rxq = [] → s.txReady = true →
    s.par.maxRetry = m + 1 → s.par.delayAfterFinal = false → s.par.tResetResp < 2 ^ s.par.tw →
    s.par.tRetry < 2 ^ s.par.tw →
    s.sched = silentAttempt s.par.tResetResp ++ silentRetries s.par.tResetResp s.par.tRetry m →
    ∃ t, Sys2Proof.core.run s.sched.length s = .next t ∧ t.seq = .idle ∧ t.status.done = true ∧ t.result = 0x00 ∧
      t.att = m + 1 ∧ t.txlog = s.txlog ++ copies (m + 1) resetFrame

/-- R169, last item, with the ACK frame arriving as a whole at any time `d` below the timeout, and the rest of the schedule
fixed: a RESET that is answered succeeds after exactly one RESET frame. -/
def Obligations.AnsweredResetSucceedsAtOnce : Prop :=
  ∀ (s : State) (d : Nat), s.memoryOk → s.rst = false → s.seq = .txCmd → s.opr = .reset → s.rxq = [] → s.txReady = true →
    d < s.par.tResetResp → s.par.tResetResp < 2 ^ s.par.tw → s.par.tResetSettle < 2 ^ s.par.tw →
    s.sched = [.block, .clock d, .peripheral [0x02, 0x03, 0x06, 0x00, 0xC2, 0x82], .block, .block, .block, .block, .block,
      .block, .clock (s.par.tResetResp - d), .block, .block, .clock s.par.tResetSettle, .block] →
    ∃ t, Sys2Proof.core.run 14 s = .next t ∧ t.seq = .idle ∧ t.status.done = true ∧ t.result = 0x01 ∧
      t.att = s.att + 1 ∧ t.rlen = 6 ∧ t.txlog = s.txlog ++ resetFrame

/-- 60_exceptions.md §4 (R192) and 10_state.md §3 (R29): OPENLOG changes only in an OPEN step of the block, which appends
BAUD; OPENED is set only by that step, and cleared only by RST. -/
def Obligations.OpenedAndOpenlogChangeOnlyInOpen : Prop :=
  ∀ s t : State, step s = .next t →
    (t.openlog ≠ s.openlog →
      s.rst = false ∧ s.nextAct.1 = .block ∧ s.seq = .opening ∧ t.openlog = s.openlog ++ [s.par.baud] ∧
        t.status.opened = true) ∧
    (s.status.opened = false → t.status.opened = true → s.nextAct.1 = .block ∧ s.seq = .opening) ∧
    (s.status.opened = true → t.status.opened = false → s.rst = true ∨ s.nextAct.1 = .rst true)

/-- 10_state.md §1 and §2 (R20, R23), 42_operations.md §1 (R150 to R152) and 70_reset_and_hazards.md §1 (R211): in IDLE a block
step does nothing, and only a write of one of the four op codes to OPREQ, with RST released and BUSY clear, makes SEQ leave
IDLE, with BUSY set and DONE and BADOP clear. -/
def Obligations.OnlyARequestLeavesIdle : Prop :=
  (∀ s u : State, s.nextAct = (.block, u) → u.rst = false → u.seq = .idle → step s = .next u) ∧
  (∀ s t : State, s.seq = .idle → step s = .next t → t.seq ≠ .idle →
    (∃ b : Byte, s.nextAct.1 = .host (.write 0 b) ∧ b.getLsbD 2 = false) ∧ s.rst = false ∧ s.status.busy = false ∧
      t.status = ⟨true, false, false, s.status.opened⟩)
end

