-- ==== Sys2Proof/Laws/Codec.lean ====
section
/-! SUPPORT. Laws/Codec.lean: the validator as four checks, and the frame a validated buffer is. -/

namespace Sys2Proof

open Machine

/-- The halves of `{hi, lo}` and back (R13). -/
theorem loByte_catBytes (h l : Byte) : loByte (catBytes h l) = l := by
  unfold loByte catBytes
  ext i hi; simp
theorem hiByte_catBytes (h l : Byte) : hiByte (catBytes h l) = h := by
  unfold hiByte catBytes
  ext i hi
  have h1 : 8 + i < 16 := by omega
  have h2 : i < 16 := by omega
  simp [hi, h1, h2]
theorem catBytes_hiByte_loByte (w : Word16) : catBytes (hiByte w) (loByte w) = w := by
  unfold loByte catBytes hiByte
  ext i hi
  by_cases h : i < 8
  · simp [h, hi]
  · have e : 8 + (i - 8) = i := by omega
    simp [h, e, BitVec.getLsbD_eq_getElem hi]; omega

/-- `validate` is its four checks (R104). -/
theorem validate_iff (b : List Byte) : validate b = true ↔
    5 ≤ b.length ∧ byteAt b 0 = Config.sync ∧ (byteAt b 2).toNat = b.length ∧ crc16 (coveredOf b) = trailerOf b := by
  simp [validate, headerOk, and_assoc]

/-- The decoder finds no fault exactly in a validated buffer that fits RB. -/
theorem wireFault_none_iff (b : List Byte) : wireFault b = none ↔ validate b = true ∧ b.length ≤ 16 := by
  rw [validate_iff, wireFault]
  constructor
  · intro h
    repeat' split at h
    all_goals simp_all
  · rintro ⟨⟨h1, h2, h3, h4⟩, h5⟩
    have e1 : ¬ b.length = 0 := by omega
    have e2 : ¬ b.length < 5 := by omega
    have e3 : ¬ 16 < b.length := by omega
    simp [e1, e2, e3, h2, h3, h4]

/-- A buffer whose CRC matches is its covered part and the trailer of that part. -/
theorem covered_append_trailer {b : List Byte} (h : 2 ≤ b.length) (hc : crc16 (coveredOf b) = trailerOf b) :
    coveredOf b ++ crcTrailer (coveredOf b) = b := by
  rw [crcTrailer, hc, trailerOf, loByte_catBytes, hiByte_catBytes]
  apply List.ext_getElem
  · simp [coveredOf]; omega
  · intro i h1 h2
    have hl : (coveredOf b).length = b.length - 2 := by simp [coveredOf]
    rw [List.getElem_append]
    split
    · simp [coveredOf]
    · next hi =>
      rw [hl] at hi
      rcases (show i = b.length - 2 ∨ i = b.length - 1 by omega) with rfl | rfl
      · simp [hl, byteAt, List.getD_eq_getElem?_getD, List.getElem?_eq_getElem h2]
      · have : b.length - 1 - (b.length - 2) = 1 := by omega
        simp [hl, this, byteAt, List.getD_eq_getElem?_getD, List.getElem?_eq_getElem h2]

theorem frameBody_frameOf {b : List Byte} (h : validate b = true) (h16 : b.length ≤ 16) :
    frameBody (byteAt b 3) (frameOf b) = coveredOf b := by
  obtain ⟨h1, h2, h3, -⟩ := (validate_iff b).1 h
  have hb2 : byteAt b 2 = BitVec.ofNat 8 b.length := by
    apply BitVec.eq_of_toNat_eq; rw [h3]; simp; omega
  unfold frameOf
  split
  · next h5 =>
    match b, h5 with
    | [a0, a1, a2, a3, a4], _ => simp_all [byteAt, frameBody, coveredOf]
  · next h5 =>
    match b, h1, h2, hb2, h16, h5 with
    | a0 :: a1 :: a2 :: a3 :: rest, h1, h2, hb2, h16, h5 =>
      simp only [List.length_cons] at h1 h5 h16 hb2
      have e : min (rest.length - 2) rest.length = rest.length - 2 := by omega
      have e2 : rest.length + 1 + 1 + 1 + 1 - 2 = rest.length - 2 + 4 := by omega
      have e3 : rest.length + 1 + 1 + 1 + 1 - 6 = rest.length - 2 := by omega
      have e4 : 6 + (rest.length - 2) = rest.length + 1 + 1 + 1 + 1 := by omega
      simp only [byteAt, List.getD_cons_zero, List.getD_cons_succ] at h2 hb2
      simp only [frameBody, coveredOf, byteAt, List.getD_cons_zero, List.getD_cons_succ, List.drop_succ_cons, List.drop_zero,
        List.length_cons, List.length_take, e, e2, e3, e4, List.take_succ_cons, ← hb2, ← h2, List.cons_append, List.nil_append]

/-- The operands read from a buffer give the buffer back. -/
theorem frameBytes_frameOf {b : List Byte} (h : wireFault b = none) : frameBytes (byteAt b 3) (frameOf b) = b := by
  obtain ⟨hv, h16⟩ := (wireFault_none_iff b).1 h
  obtain ⟨h1, -, -, hc⟩ := (validate_iff b).1 hv
  rw [frameBytes, frameBody_frameOf hv h16, covered_append_trailer (by omega) hc]

/-- The operands read from a validated buffer belong to its row. -/
theorem frameOf_wf {b : List Byte} (h : validate b = true) (h16 : b.length ≤ 16) :
    (frameOf b).wf (byteAt b 3) = true := by
  obtain ⟨h1, h2, h3, hc⟩ := (validate_iff b).1 h
  have hbody := frameBody_frameOf h h16
  unfold frameOf at hbody ⊢
  split
  · next h5 =>
    rw [if_pos h5] at hbody
    simp only [Frame.wf, beq_iff_eq]
    rw [show [Config.sync, byteAt b 1, 5] = coveredOf b from hbody, hc, trailerOf, loByte_catBytes, h5]
  · simp only [Frame.wf, decide_eq_true_eq, List.length_take, List.length_drop]
    show 6 + _ ≤ 16
    omega

/-- What the decoder reads of the bytes of a well-formed frame. -/
theorem decode_parts_of_frameBytes {cmd : Byte} {f : Frame} (h : f.wf cmd = true) :
    wireFault (frameBytes cmd f) = none ∧ byteAt (frameBytes cmd f) 3 = cmd ∧ frameOf (frameBytes cmd f) = f := by
  cases f with
  | bare a =>
    simp only [Frame.wf, beq_iff_eq] at h
    refine ⟨?_, ?_, ?_⟩
    · rw [wireFault_none_iff, validate_iff]
      simp [frameBytes, frameBody, crcTrailer, byteAt, coveredOf, trailerOf, catBytes_hiByte_loByte]
    · simpa [frameBytes, frameBody, crcTrailer, byteAt] using h
    · simp [frameBytes, frameBody, crcTrailer, byteAt, frameOf]
  | full a d =>
    simp only [Frame.wf, decide_eq_true_eq] at h
    have h' : 6 + d.length ≤ 16 := h
    refine ⟨?_, ?_, ?_⟩
    · rw [wireFault_none_iff, validate_iff]
      have hl : (frameBody cmd (.full a d)).length = d.length + 4 := by simp [frameBody]
      have hcov : coveredOf (frameBytes cmd (.full a d)) = frameBody cmd (.full a d) := by
        simp [coveredOf, frameBytes, crcTrailer]
      refine ⟨⟨?_, ?_, ?_, ?_⟩, ?_⟩
      · simp [frameBytes, frameBody, crcTrailer]
      · simp [frameBytes, frameBody, byteAt]
      · simp [frameBytes, frameBody, byteAt, crcTrailer]; omega
      · rw [hcov, trailerOf]
        have e1 : byteAt (frameBytes cmd (.full a d)) ((frameBytes cmd (.full a d)).length - 1) =
            hiByte (crc16 (frameBody cmd (.full a d))) := by
          simp [frameBytes, crcTrailer, byteAt]
        have e2 : byteAt (frameBytes cmd (.full a d)) ((frameBytes cmd (.full a d)).length - 2) =
            loByte (crc16 (frameBody cmd (.full a d))) := by
          simp [frameBytes, crcTrailer, byteAt]
        rw [e1, e2, catBytes_hiByte_loByte]
      · simp [frameBytes, hl, crcTrailer]; omega
    · simp [frameBytes, frameBody, byteAt]
    · simp [frameBytes, frameBody, crcTrailer, byteAt, frameOf]

/-- The row of a command code encodes with that code. -/
theorem rowOf_spec (cmd : Byte) (f : Frame) : encode (rowOf cmd f) = frameBytes cmd f ∧
    (rowOf cmd f).wf = f.wf cmd ∧ (rowOf cmd f).channel = some .wire := by
  unfold rowOf
  repeat' split
  all_goals simp_all [encode, Instr.wf, Instr.channel, assignedCmds]

end Sys2Proof
end

