-- ==== Sys2Proof/Laws/Memory.lean ====
section
/-! SUPPORT. Laws/Memory.lean: the laws of the response-buffer memory: a write keeps the canonical form, a read gives the last
write, other addresses keep theirs, and memories in canonical form that read alike are equal. -/

namespace Sys2Proof.Machine

theorem Memory.wfFrom_mono {lo lo' : Nat} (h : lo ≤ lo') : ∀ {m : Memory}, m.wfFrom lo' = true → m.wfFrom lo = true
  | [], _ => rfl
  | (k, b) :: m, hm => by
    simp only [Memory.wfFrom, Bool.and_eq_true, decide_eq_true_eq] at hm ⊢
    exact ⟨⟨⟨by omega, hm.1.1.2⟩, hm.1.2⟩, hm.2⟩

theorem Memory.read_below {lo a : Nat} (h : a < lo) : ∀ {m : Memory}, m.wfFrom lo = true → m.read a = Memory.unlisted
  | [], _ => rfl
  | (k, b) :: m, hm => by
    simp only [Memory.wfFrom, Bool.and_eq_true, decide_eq_true_eq] at hm
    rw [Memory.read, if_neg (by omega)]
    exact Memory.read_below (lo := k + 1) (by omega) hm.2

theorem Memory.wfFrom_put {lo a : Nat} {v : Byte} {m : Memory} (hlo : lo ≤ a) (ha : a < Config.rbCap)
    (hm : m.wfFrom (a + 1) = true) : (Memory.put a v m).wfFrom lo = true := by
  unfold Memory.put
  split
  · exact Memory.wfFrom_mono (by omega) hm
  · next hv =>
    simp only [Memory.wfFrom, Bool.and_eq_true, decide_eq_true_eq, bne_iff_ne]
    exact ⟨⟨⟨hlo, ha⟩, hv⟩, hm⟩

/-- A write inside the space keeps the canonical form from any lower bound of its address on. -/
theorem Memory.wfFrom_write {a : Nat} {v : Byte} (ha : a < Config.rbCap) :
    ∀ {lo : Nat} {m : Memory}, lo ≤ a → m.wfFrom lo = true → (m.write a v).wfFrom lo = true
  | lo, [], hlo, _ => Memory.wfFrom_put hlo ha rfl
  | lo, (k, b) :: m, hlo, hm => by
    have hm' := hm
    simp only [Memory.wfFrom, Bool.and_eq_true, decide_eq_true_eq] at hm'
    unfold Memory.write
    split
    · refine Memory.wfFrom_put hlo ha ?_
      simp only [Memory.wfFrom, Bool.and_eq_true, decide_eq_true_eq]
      exact ⟨⟨⟨by omega, hm'.1.1.2⟩, hm'.1.2⟩, hm'.2⟩
    · split
      · next h => subst h; exact Memory.wfFrom_put hlo ha hm'.2
      · simp only [Memory.wfFrom, Bool.and_eq_true, decide_eq_true_eq]
        exact ⟨⟨⟨hm'.1.1.1, hm'.1.1.2⟩, hm'.1.2⟩, Memory.wfFrom_write ha (by omega) hm'.2⟩

/-- Every write to one of the sixteen addresses keeps the canonical form. -/
theorem Memory.wf_write {m : Memory} {a : Nat} {v : Byte} (hm : m.wf = true) (ha : a < Config.rbCap) :
    (m.write a v).wf = true := Memory.wfFrom_write ha (Nat.zero_le _) hm

theorem Memory.wf_writeAll : ∀ {b : List Byte} {m : Memory} {a : Nat}, m.wf = true → a + b.length ≤ Config.rbCap →
    (m.writeAll a b).wf = true
  | [], _, _, hm, _ => hm
  | _ :: bs, _, _, hm, h => by
    simp only [List.length_cons] at h
    exact Memory.wf_writeAll (b := bs) (Memory.wf_write hm (by omega)) (by omega)

theorem Memory.read_put_same {lo a : Nat} {v : Byte} {m : Memory} (hlo : a < lo) (hm : m.wfFrom lo = true) :
    (Memory.put a v m).read a = v := by
  unfold Memory.put
  split
  · next h => rw [h]; exact Memory.read_below hlo hm
  · simp [Memory.read]

theorem Memory.read_put_other {a c : Nat} {v : Byte} {m : Memory} (h : c ≠ a) :
    (Memory.put a v m).read c = m.read c := by
  unfold Memory.put
  split
  · rfl
  · rw [Memory.read, if_neg (Ne.symm h)]

/-- A read gives the byte last written to the address. -/
theorem Memory.read_write_same {a : Nat} {v : Byte} :
    ∀ {lo : Nat} {m : Memory}, m.wfFrom lo = true → (m.write a v).read a = v
  | _, [], _ => Memory.read_put_same (lo := a + 1) (by omega) rfl
  | lo, (k, b) :: m, hm => by
    have hm' := hm
    simp only [Memory.wfFrom, Bool.and_eq_true, decide_eq_true_eq] at hm'
    unfold Memory.write
    split
    · refine Memory.read_put_same (lo := k) (by omega) ?_
      simp only [Memory.wfFrom, Bool.and_eq_true, decide_eq_true_eq]
      exact ⟨⟨⟨by omega, hm'.1.1.2⟩, hm'.1.2⟩, hm'.2⟩
    · split
      · next h => subst h; exact Memory.read_put_same (by omega) hm'.2
      · next h => rw [Memory.read, if_neg (Ne.symm h)]; exact Memory.read_write_same hm'.2

/-- A write leaves every other address alone. -/
theorem Memory.read_write_other {a c : Nat} {v : Byte} (h : c ≠ a) : ∀ (m : Memory), (m.write a v).read c = m.read c
  | [] => Memory.read_put_other h
  | (k, b) :: m => by
    unfold Memory.write
    split
    · exact Memory.read_put_other h
    · split
      · next _ hk => subst hk; rw [Memory.read_put_other h, Memory.read, if_neg (Ne.symm h)]
      · simp only [Memory.read]
        split
        · rfl
        · exact Memory.read_write_other h m

/-- Equal memories are equal data. -/
theorem Memory.ext_of_wf : ∀ {lo : Nat} {m n : Memory}, m.wfFrom lo = true → n.wfFrom lo = true →
    (∀ a, m.read a = n.read a) → m = n
  | _, [], [], _, _, _ => rfl
  | _, [], (k, b) :: n, _, hn, h => by
    simp only [Memory.wfFrom, Bool.and_eq_true, decide_eq_true_eq, bne_iff_ne] at hn
    exact absurd (by simpa [Memory.read] using (h k).symm) hn.1.2
  | _, (k, b) :: m, [], hm, _, h => by
    simp only [Memory.wfFrom, Bool.and_eq_true, decide_eq_true_eq, bne_iff_ne] at hm
    exact absurd (by simpa [Memory.read] using h k) hm.1.2
  | _, (k, b) :: m, (l, c) :: n, hm, hn, h => by
    simp only [Memory.wfFrom, Bool.and_eq_true, decide_eq_true_eq, bne_iff_ne] at hm hn
    have hkl : k = l := by
      rcases Nat.lt_trichotomy k l with hlt | heq | hgt
      · have := h k
        simp only [Memory.read, if_true, if_neg (show ¬ l = k by omega)] at this
        exact absurd (this.trans (Memory.read_below (lo := l + 1) (by omega) hn.2)) hm.1.2
      · exact heq
      · have := h l
        simp only [Memory.read, if_true, if_neg (show ¬ k = l by omega)] at this
        exact absurd (this.symm.trans (Memory.read_below (lo := k + 1) (by omega) hm.2)) hn.1.2
    subst hkl
    have hbc : b = c := by simpa [Memory.read] using h k
    subst hbc
    rw [Memory.ext_of_wf hm.2 hn.2 (fun a => ?_)]
    rcases Nat.lt_or_ge k a with hlt | hge
    · have := h a
      simpa only [Memory.read, if_neg (show ¬ k = a by omega)] using this
    · rw [Memory.read_below (by omega) hm.2, Memory.read_below (by omega) hn.2]

@[simp] theorem Memory.length_bytes (m : Memory) : ∀ (a n : Nat), (m.bytes a n).length = n
  | _, 0 => rfl
  | a, n + 1 => by rw [Memory.bytes, List.length_cons, Memory.length_bytes m (a + 1) n]

theorem Memory.getD_bytes (m : Memory) (d : Byte) : ∀ (a n i : Nat), i < n → (m.bytes a n).getD i d = m.read (a + i)
  | _, 0, _, h => absurd h (Nat.not_lt_zero _)
  | a, n + 1, 0, _ => rfl
  | a, n + 1, i + 1, h => by
    rw [Memory.bytes, List.getD_cons_succ, Memory.getD_bytes m d (a + 1) n i (by omega)]
    congr 1; omega

theorem Memory.take_bytes (m : Memory) : ∀ (a n k : Nat), k ≤ n → (m.bytes a n).take k = m.bytes a k
  | _, _, 0, _ => rfl
  | _, 0, k + 1, h => absurd h (by omega)
  | a, n + 1, k + 1, h => by
    rw [Memory.bytes, Memory.bytes, List.take_succ_cons, Memory.take_bytes m (a + 1) n k (by omega)]

/-- Writes outside a range leave the bytes read from it alone. -/
theorem Memory.bytes_congr {m m' : Memory} : ∀ (a n : Nat), (∀ c, a ≤ c → c < a + n → m'.read c = m.read c) →
    m'.bytes a n = m.bytes a n
  | _, 0, _ => rfl
  | a, n + 1, h => by
    rw [Memory.bytes, Memory.bytes, h a (by omega) (by omega),
      Memory.bytes_congr (a + 1) n (fun c h1 h2 => h c (by omega) (by omega))]

end Sys2Proof.Machine
end

