-- ==== Sys2Proof/Laws/State.lean ====
section
/-! SUPPORT. Laws/State.lean: one lemma per field per named update of the state, each true by rfl. -/

namespace Sys2Proof.Machine

@[simp] theorem raiseFault_rb (s : State) (c : DutyFault) : (s.raiseFault c).rb = s.rb := rfl
@[simp] theorem raiseFault_rlen (s : State) (c : DutyFault) : (s.raiseFault c).rlen = s.rlen := rfl
@[simp] theorem raiseFault_seq (s : State) (c : DutyFault) : (s.raiseFault c).seq = s.seq := rfl
@[simp] theorem raiseFault_opr (s : State) (c : DutyFault) : (s.raiseFault c).opr = s.opr := rfl
@[simp] theorem raiseFault_att (s : State) (c : DutyFault) : (s.raiseFault c).att = s.att := rfl
@[simp] theorem raiseFault_iatt (s : State) (c : DutyFault) : (s.raiseFault c).iatt = s.iatt := rfl
@[simp] theorem raiseFault_t0 (s : State) (c : DutyFault) : (s.raiseFault c).t0 = s.t0 := rfl
@[simp] theorem raiseFault_acc (s : State) (c : DutyFault) : (s.raiseFault c).acc = s.acc := rfl
@[simp] theorem raiseFault_status (s : State) (c : DutyFault) : (s.raiseFault c).status = s.status := rfl
@[simp] theorem raiseFault_result (s : State) (c : DutyFault) : (s.raiseFault c).result = s.result := rfl
@[simp] theorem raiseFault_rxq (s : State) (c : DutyFault) : (s.raiseFault c).rxq = s.rxq := rfl
@[simp] theorem raiseFault_txlog (s : State) (c : DutyFault) : (s.raiseFault c).txlog = s.txlog := rfl
@[simp] theorem raiseFault_openlog (s : State) (c : DutyFault) : (s.raiseFault c).openlog = s.openlog := rfl
@[simp] theorem raiseFault_now (s : State) (c : DutyFault) : (s.raiseFault c).now = s.now := rfl
@[simp] theorem raiseFault_fault (s : State) (c : DutyFault) : (s.raiseFault c).fault = some (s.fault.getD c) := rfl
@[simp] theorem raiseFault_rst (s : State) (c : DutyFault) : (s.raiseFault c).rst = s.rst := rfl
@[simp] theorem raiseFault_txReady (s : State) (c : DutyFault) : (s.raiseFault c).txReady = s.txReady := rfl
@[simp] theorem raiseFault_codec (s : State) (c : DutyFault) : (s.raiseFault c).codec = s.codec := rfl
@[simp] theorem raiseFault_rdlog (s : State) (c : DutyFault) : (s.raiseFault c).rdlog = s.rdlog := rfl
@[simp] theorem raiseFault_sched (s : State) (c : DutyFault) : (s.raiseFault c).sched = s.sched := rfl
@[simp] theorem raiseFault_drawn (s : State) (c : DutyFault) : (s.raiseFault c).drawn = s.drawn := rfl
@[simp] theorem raiseFault_par (s : State) (c : DutyFault) : (s.raiseFault c).par = s.par := rfl

@[simp] theorem resetBlock_rb (s : State) : (s.resetBlock).rb = [] := rfl
@[simp] theorem resetBlock_rlen (s : State) : (s.resetBlock).rlen = 0 := rfl
@[simp] theorem resetBlock_seq (s : State) : (s.resetBlock).seq = .idle := rfl
@[simp] theorem resetBlock_opr (s : State) : (s.resetBlock).opr = .init := rfl
@[simp] theorem resetBlock_att (s : State) : (s.resetBlock).att = 0 := rfl
@[simp] theorem resetBlock_iatt (s : State) : (s.resetBlock).iatt = 0 := rfl
@[simp] theorem resetBlock_t0 (s : State) : (s.resetBlock).t0 = 0 := rfl
@[simp] theorem resetBlock_acc (s : State) : (s.resetBlock).acc = 0 := rfl
@[simp] theorem resetBlock_status (s : State) : (s.resetBlock).status = ⟨false, false, false, false⟩ := rfl
@[simp] theorem resetBlock_result (s : State) : (s.resetBlock).result = 0 := rfl
@[simp] theorem resetBlock_rxq (s : State) : (s.resetBlock).rxq = s.rxq := rfl
@[simp] theorem resetBlock_txlog (s : State) : (s.resetBlock).txlog = s.txlog := rfl
@[simp] theorem resetBlock_openlog (s : State) : (s.resetBlock).openlog = s.openlog := rfl
@[simp] theorem resetBlock_now (s : State) : (s.resetBlock).now = s.now := rfl
@[simp] theorem resetBlock_fault (s : State) : (s.resetBlock).fault = s.fault := rfl
@[simp] theorem resetBlock_rst (s : State) : (s.resetBlock).rst = s.rst := rfl
@[simp] theorem resetBlock_txReady (s : State) : (s.resetBlock).txReady = s.txReady := rfl
@[simp] theorem resetBlock_codec (s : State) : (s.resetBlock).codec = ⟨false, none⟩ := rfl
@[simp] theorem resetBlock_rdlog (s : State) : (s.resetBlock).rdlog = s.rdlog := rfl
@[simp] theorem resetBlock_sched (s : State) : (s.resetBlock).sched = s.sched := rfl
@[simp] theorem resetBlock_drawn (s : State) : (s.resetBlock).drawn = s.drawn := rfl
@[simp] theorem resetBlock_par (s : State) : (s.resetBlock).par = s.par := rfl

@[simp] theorem finish_rb (s : State) (v : Byte) : (s.finish v).rb = s.rb := rfl
@[simp] theorem finish_rlen (s : State) (v : Byte) : (s.finish v).rlen = s.rlen := rfl
@[simp] theorem finish_seq (s : State) (v : Byte) : (s.finish v).seq = .idle := rfl
@[simp] theorem finish_opr (s : State) (v : Byte) : (s.finish v).opr = s.opr := rfl
@[simp] theorem finish_att (s : State) (v : Byte) : (s.finish v).att = s.att := rfl
@[simp] theorem finish_iatt (s : State) (v : Byte) : (s.finish v).iatt = s.iatt := rfl
@[simp] theorem finish_t0 (s : State) (v : Byte) : (s.finish v).t0 = s.t0 := rfl
@[simp] theorem finish_acc (s : State) (v : Byte) : (s.finish v).acc = s.acc := rfl
@[simp] theorem finish_status (s : State) (v : Byte) : (s.finish v).status = s.status.finished := rfl
@[simp] theorem finish_result (s : State) (v : Byte) : (s.finish v).result = v := rfl
@[simp] theorem finish_rxq (s : State) (v : Byte) : (s.finish v).rxq = s.rxq := rfl
@[simp] theorem finish_txlog (s : State) (v : Byte) : (s.finish v).txlog = s.txlog := rfl
@[simp] theorem finish_openlog (s : State) (v : Byte) : (s.finish v).openlog = s.openlog := rfl
@[simp] theorem finish_now (s : State) (v : Byte) : (s.finish v).now = s.now := rfl
@[simp] theorem finish_fault (s : State) (v : Byte) : (s.finish v).fault = s.fault := rfl
@[simp] theorem finish_rst (s : State) (v : Byte) : (s.finish v).rst = s.rst := rfl
@[simp] theorem finish_txReady (s : State) (v : Byte) : (s.finish v).txReady = s.txReady := rfl
@[simp] theorem finish_codec (s : State) (v : Byte) : (s.finish v).codec = s.codec := rfl
@[simp] theorem finish_rdlog (s : State) (v : Byte) : (s.finish v).rdlog = s.rdlog := rfl
@[simp] theorem finish_sched (s : State) (v : Byte) : (s.finish v).sched = s.sched := rfl
@[simp] theorem finish_drawn (s : State) (v : Byte) : (s.finish v).drawn = s.drawn := rfl
@[simp] theorem finish_par (s : State) (v : Byte) : (s.finish v).par = s.par := rfl

@[simp] theorem enterWait_rb (s : State) (w : Seq) : (s.enterWait w).rb = s.rb := rfl
@[simp] theorem enterWait_rlen (s : State) (w : Seq) : (s.enterWait w).rlen = s.rlen := rfl
@[simp] theorem enterWait_seq (s : State) (w : Seq) : (s.enterWait w).seq = w := rfl
@[simp] theorem enterWait_opr (s : State) (w : Seq) : (s.enterWait w).opr = s.opr := rfl
@[simp] theorem enterWait_att (s : State) (w : Seq) : (s.enterWait w).att = s.att := rfl
@[simp] theorem enterWait_iatt (s : State) (w : Seq) : (s.enterWait w).iatt = s.iatt := rfl
@[simp] theorem enterWait_t0 (s : State) (w : Seq) : (s.enterWait w).t0 = s.stamp := rfl
@[simp] theorem enterWait_acc (s : State) (w : Seq) : (s.enterWait w).acc = s.acc := rfl
@[simp] theorem enterWait_status (s : State) (w : Seq) : (s.enterWait w).status = s.status := rfl
@[simp] theorem enterWait_result (s : State) (w : Seq) : (s.enterWait w).result = s.result := rfl
@[simp] theorem enterWait_rxq (s : State) (w : Seq) : (s.enterWait w).rxq = s.rxq := rfl
@[simp] theorem enterWait_txlog (s : State) (w : Seq) : (s.enterWait w).txlog = s.txlog := rfl
@[simp] theorem enterWait_openlog (s : State) (w : Seq) : (s.enterWait w).openlog = s.openlog := rfl
@[simp] theorem enterWait_now (s : State) (w : Seq) : (s.enterWait w).now = s.now := rfl
@[simp] theorem enterWait_fault (s : State) (w : Seq) : (s.enterWait w).fault = s.fault := rfl
@[simp] theorem enterWait_rst (s : State) (w : Seq) : (s.enterWait w).rst = s.rst := rfl
@[simp] theorem enterWait_txReady (s : State) (w : Seq) : (s.enterWait w).txReady = s.txReady := rfl
@[simp] theorem enterWait_codec (s : State) (w : Seq) : (s.enterWait w).codec = s.codec := rfl
@[simp] theorem enterWait_rdlog (s : State) (w : Seq) : (s.enterWait w).rdlog = s.rdlog := rfl
@[simp] theorem enterWait_sched (s : State) (w : Seq) : (s.enterWait w).sched = s.sched := rfl
@[simp] theorem enterWait_drawn (s : State) (w : Seq) : (s.enterWait w).drawn = s.drawn := rfl
@[simp] theorem enterWait_par (s : State) (w : Seq) : (s.enterWait w).par = s.par := rfl

@[simp] theorem txWrite_rb (s : State) (f : List Byte) : (s.txWrite f).rb = s.rb := rfl
@[simp] theorem txWrite_rlen (s : State) (f : List Byte) : (s.txWrite f).rlen = s.rlen := rfl
@[simp] theorem txWrite_seq (s : State) (f : List Byte) : (s.txWrite f).seq = s.seq := rfl
@[simp] theorem txWrite_opr (s : State) (f : List Byte) : (s.txWrite f).opr = s.opr := rfl
@[simp] theorem txWrite_att (s : State) (f : List Byte) : (s.txWrite f).att = s.att := rfl
@[simp] theorem txWrite_iatt (s : State) (f : List Byte) : (s.txWrite f).iatt = s.iatt := rfl
@[simp] theorem txWrite_t0 (s : State) (f : List Byte) : (s.txWrite f).t0 = s.t0 := rfl
@[simp] theorem txWrite_acc (s : State) (f : List Byte) : (s.txWrite f).acc = s.acc := rfl
@[simp] theorem txWrite_status (s : State) (f : List Byte) : (s.txWrite f).status = s.status := rfl
@[simp] theorem txWrite_result (s : State) (f : List Byte) : (s.txWrite f).result = s.result := rfl
@[simp] theorem txWrite_rxq (s : State) (f : List Byte) : (s.txWrite f).rxq = s.rxq := rfl
@[simp] theorem txWrite_txlog (s : State) (f : List Byte) : (s.txWrite f).txlog = s.txlog ++ f := rfl
@[simp] theorem txWrite_openlog (s : State) (f : List Byte) : (s.txWrite f).openlog = s.openlog := rfl
@[simp] theorem txWrite_now (s : State) (f : List Byte) : (s.txWrite f).now = s.now := rfl
@[simp] theorem txWrite_fault (s : State) (f : List Byte) : (s.txWrite f).fault = s.fault := rfl
@[simp] theorem txWrite_rst (s : State) (f : List Byte) : (s.txWrite f).rst = s.rst := rfl
@[simp] theorem txWrite_txReady (s : State) (f : List Byte) : (s.txWrite f).txReady = s.txReady := rfl
@[simp] theorem txWrite_codec (s : State) (f : List Byte) : (s.txWrite f).codec = s.codec := rfl
@[simp] theorem txWrite_rdlog (s : State) (f : List Byte) : (s.txWrite f).rdlog = s.rdlog := rfl
@[simp] theorem txWrite_sched (s : State) (f : List Byte) : (s.txWrite f).sched = s.sched := rfl
@[simp] theorem txWrite_drawn (s : State) (f : List Byte) : (s.txWrite f).drawn = s.drawn := rfl
@[simp] theorem txWrite_par (s : State) (f : List Byte) : (s.txWrite f).par = s.par := rfl

@[simp] theorem runCrc_rb (s : State) (d : List Byte) : (s.runCrc d).rb = s.rb := rfl
@[simp] theorem runCrc_rlen (s : State) (d : List Byte) : (s.runCrc d).rlen = s.rlen := rfl
@[simp] theorem runCrc_seq (s : State) (d : List Byte) : (s.runCrc d).seq = s.seq := rfl
@[simp] theorem runCrc_opr (s : State) (d : List Byte) : (s.runCrc d).opr = s.opr := rfl
@[simp] theorem runCrc_att (s : State) (d : List Byte) : (s.runCrc d).att = s.att := rfl
@[simp] theorem runCrc_iatt (s : State) (d : List Byte) : (s.runCrc d).iatt = s.iatt := rfl
@[simp] theorem runCrc_t0 (s : State) (d : List Byte) : (s.runCrc d).t0 = s.t0 := rfl
@[simp] theorem runCrc_acc (s : State) (d : List Byte) : (s.runCrc d).acc = crc16 d := rfl
@[simp] theorem runCrc_status (s : State) (d : List Byte) : (s.runCrc d).status = s.status := rfl
@[simp] theorem runCrc_result (s : State) (d : List Byte) : (s.runCrc d).result = s.result := rfl
@[simp] theorem runCrc_rxq (s : State) (d : List Byte) : (s.runCrc d).rxq = s.rxq := rfl
@[simp] theorem runCrc_txlog (s : State) (d : List Byte) : (s.runCrc d).txlog = s.txlog := rfl
@[simp] theorem runCrc_openlog (s : State) (d : List Byte) : (s.runCrc d).openlog = s.openlog := rfl
@[simp] theorem runCrc_now (s : State) (d : List Byte) : (s.runCrc d).now = s.now := rfl
@[simp] theorem runCrc_fault (s : State) (d : List Byte) : (s.runCrc d).fault = s.fault := rfl
@[simp] theorem runCrc_rst (s : State) (d : List Byte) : (s.runCrc d).rst = s.rst := rfl
@[simp] theorem runCrc_txReady (s : State) (d : List Byte) : (s.runCrc d).txReady = s.txReady := rfl
@[simp] theorem runCrc_codec (s : State) (d : List Byte) : (s.runCrc d).codec = s.codec := rfl
@[simp] theorem runCrc_rdlog (s : State) (d : List Byte) : (s.runCrc d).rdlog = s.rdlog := rfl
@[simp] theorem runCrc_sched (s : State) (d : List Byte) : (s.runCrc d).sched = s.sched := rfl
@[simp] theorem runCrc_drawn (s : State) (d : List Byte) : (s.runCrc d).drawn = s.drawn := rfl
@[simp] theorem runCrc_par (s : State) (d : List Byte) : (s.runCrc d).par = s.par := rfl

@[simp] theorem showBill_rb (s : State) (d : Option Byte) : (s.showBill d).rb = s.rb := rfl
@[simp] theorem showBill_rlen (s : State) (d : Option Byte) : (s.showBill d).rlen = s.rlen := rfl
@[simp] theorem showBill_seq (s : State) (d : Option Byte) : (s.showBill d).seq = s.seq := rfl
@[simp] theorem showBill_opr (s : State) (d : Option Byte) : (s.showBill d).opr = s.opr := rfl
@[simp] theorem showBill_att (s : State) (d : Option Byte) : (s.showBill d).att = s.att := rfl
@[simp] theorem showBill_iatt (s : State) (d : Option Byte) : (s.showBill d).iatt = s.iatt := rfl
@[simp] theorem showBill_t0 (s : State) (d : Option Byte) : (s.showBill d).t0 = s.t0 := rfl
@[simp] theorem showBill_acc (s : State) (d : Option Byte) : (s.showBill d).acc = s.acc := rfl
@[simp] theorem showBill_status (s : State) (d : Option Byte) : (s.showBill d).status = s.status := rfl
@[simp] theorem showBill_result (s : State) (d : Option Byte) : (s.showBill d).result = s.result := rfl
@[simp] theorem showBill_rxq (s : State) (d : Option Byte) : (s.showBill d).rxq = s.rxq := rfl
@[simp] theorem showBill_txlog (s : State) (d : Option Byte) : (s.showBill d).txlog = s.txlog := rfl
@[simp] theorem showBill_openlog (s : State) (d : Option Byte) : (s.showBill d).openlog = s.openlog := rfl
@[simp] theorem showBill_now (s : State) (d : Option Byte) : (s.showBill d).now = s.now := rfl
@[simp] theorem showBill_fault (s : State) (d : Option Byte) : (s.showBill d).fault = s.fault := rfl
@[simp] theorem showBill_rst (s : State) (d : Option Byte) : (s.showBill d).rst = s.rst := rfl
@[simp] theorem showBill_txReady (s : State) (d : Option Byte) : (s.showBill d).txReady = s.txReady := rfl
@[simp] theorem showBill_codec (s : State) (d : Option Byte) : (s.showBill d).codec = ⟨s.codec.valid, d⟩ := rfl
@[simp] theorem showBill_rdlog (s : State) (d : Option Byte) : (s.showBill d).rdlog = s.rdlog := rfl
@[simp] theorem showBill_sched (s : State) (d : Option Byte) : (s.showBill d).sched = s.sched := rfl
@[simp] theorem showBill_drawn (s : State) (d : Option Byte) : (s.showBill d).drawn = s.drawn := rfl
@[simp] theorem showBill_par (s : State) (d : Option Byte) : (s.showBill d).par = s.par := rfl

@[simp] theorem hostRead_rb (s : State) (off : BitVec 2) : (s.hostRead off).rb = s.rb := rfl
@[simp] theorem hostRead_rlen (s : State) (off : BitVec 2) : (s.hostRead off).rlen = s.rlen := rfl
@[simp] theorem hostRead_seq (s : State) (off : BitVec 2) : (s.hostRead off).seq = s.seq := rfl
@[simp] theorem hostRead_opr (s : State) (off : BitVec 2) : (s.hostRead off).opr = s.opr := rfl
@[simp] theorem hostRead_att (s : State) (off : BitVec 2) : (s.hostRead off).att = s.att := rfl
@[simp] theorem hostRead_iatt (s : State) (off : BitVec 2) : (s.hostRead off).iatt = s.iatt := rfl
@[simp] theorem hostRead_t0 (s : State) (off : BitVec 2) : (s.hostRead off).t0 = s.t0 := rfl
@[simp] theorem hostRead_acc (s : State) (off : BitVec 2) : (s.hostRead off).acc = s.acc := rfl
@[simp] theorem hostRead_status (s : State) (off : BitVec 2) : (s.hostRead off).status = s.status := rfl
@[simp] theorem hostRead_result (s : State) (off : BitVec 2) : (s.hostRead off).result = s.result := rfl
@[simp] theorem hostRead_rxq (s : State) (off : BitVec 2) : (s.hostRead off).rxq = s.rxq := rfl
@[simp] theorem hostRead_txlog (s : State) (off : BitVec 2) : (s.hostRead off).txlog = s.txlog := rfl
@[simp] theorem hostRead_openlog (s : State) (off : BitVec 2) : (s.hostRead off).openlog = s.openlog := rfl
@[simp] theorem hostRead_now (s : State) (off : BitVec 2) : (s.hostRead off).now = s.now := rfl
@[simp] theorem hostRead_fault (s : State) (off : BitVec 2) : (s.hostRead off).fault = s.fault := rfl
@[simp] theorem hostRead_rst (s : State) (off : BitVec 2) : (s.hostRead off).rst = s.rst := rfl
@[simp] theorem hostRead_txReady (s : State) (off : BitVec 2) : (s.hostRead off).txReady = s.txReady := rfl
@[simp] theorem hostRead_codec (s : State) (off : BitVec 2) : (s.hostRead off).codec = s.codec := rfl
@[simp] theorem hostRead_rdlog (s : State) (off : BitVec 2) : (s.hostRead off).rdlog = s.rdlog ++ [s.hostByte off] := rfl
@[simp] theorem hostRead_sched (s : State) (off : BitVec 2) : (s.hostRead off).sched = s.sched := rfl
@[simp] theorem hostRead_drawn (s : State) (off : BitVec 2) : (s.hostRead off).drawn = s.drawn := rfl
@[simp] theorem hostRead_par (s : State) (off : BitVec 2) : (s.hostRead off).par = s.par := rfl

@[simp] theorem accepted_busy (t : Status) : t.accepted.busy = true := rfl
@[simp] theorem accepted_done (t : Status) : t.accepted.done = false := rfl
@[simp] theorem accepted_badop (t : Status) : t.accepted.badop = false := rfl
@[simp] theorem accepted_opened (t : Status) : t.accepted.opened = t.opened := rfl

@[simp] theorem finished_busy (t : Status) : t.finished.busy = false := rfl
@[simp] theorem finished_done (t : Status) : t.finished.done = true := rfl
@[simp] theorem finished_badop (t : Status) : t.finished.badop = t.badop := rfl
@[simp] theorem finished_opened (t : Status) : t.finished.opened = t.opened := rfl

@[simp] theorem sawBadOp_busy (t : Status) : t.sawBadOp.busy = t.busy := rfl
@[simp] theorem sawBadOp_done (t : Status) : t.sawBadOp.done = t.done := rfl
@[simp] theorem sawBadOp_badop (t : Status) : t.sawBadOp.badop = true := rfl
@[simp] theorem sawBadOp_opened (t : Status) : t.sawBadOp.opened = t.opened := rfl

@[simp] theorem sawOpen_busy (t : Status) : t.sawOpen.busy = t.busy := rfl
@[simp] theorem sawOpen_done (t : Status) : t.sawOpen.done = t.done := rfl
@[simp] theorem sawOpen_badop (t : Status) : t.sawOpen.badop = t.badop := rfl
@[simp] theorem sawOpen_opened (t : Status) : t.sawOpen.opened = true := rfl

end Sys2Proof.Machine
end

