-- ==== Sys2Proof/Laws/Ops.lean ====
section
/-! SUPPORT. Laws/Ops.lean: the frame of every shared operation, the fields it never touches, and the equations of the retry
sequencer. -/

namespace Sys2Proof.Machine

/-- `reset_run_failed()` (R168) writes only T0, RESULT, STATUS and SEQ. -/
@[simp] theorem resetRunFailed_frame (s : State) :
    (s.resetRunFailed).rb = s.rb ∧ (s.resetRunFailed).rlen = s.rlen ∧ (s.resetRunFailed).opr = s.opr ∧
    (s.resetRunFailed).att = s.att ∧ (s.resetRunFailed).iatt = s.iatt ∧ (s.resetRunFailed).acc = s.acc ∧
    (s.resetRunFailed).rxq = s.rxq ∧ (s.resetRunFailed).txlog = s.txlog ∧ (s.resetRunFailed).openlog = s.openlog ∧
    (s.resetRunFailed).now = s.now ∧ (s.resetRunFailed).fault = s.fault ∧ (s.resetRunFailed).rst = s.rst ∧
    (s.resetRunFailed).txReady = s.txReady ∧ (s.resetRunFailed).codec = s.codec ∧ (s.resetRunFailed).rdlog = s.rdlog ∧
    (s.resetRunFailed).sched = s.sched ∧ (s.resetRunFailed).drawn = s.drawn ∧ (s.resetRunFailed).par = s.par := by
  unfold State.resetRunFailed; (repeat' split) <;> simp

/-- `loop_exhausted()` (R168) writes only T0, RESULT, STATUS and SEQ. -/
@[simp] theorem loopExhausted_frame (s : State) :
    (s.loopExhausted).rb = s.rb ∧ (s.loopExhausted).rlen = s.rlen ∧ (s.loopExhausted).opr = s.opr ∧
    (s.loopExhausted).att = s.att ∧ (s.loopExhausted).iatt = s.iatt ∧ (s.loopExhausted).acc = s.acc ∧
    (s.loopExhausted).rxq = s.rxq ∧ (s.loopExhausted).txlog = s.txlog ∧ (s.loopExhausted).openlog = s.openlog ∧
    (s.loopExhausted).now = s.now ∧ (s.loopExhausted).fault = s.fault ∧ (s.loopExhausted).rst = s.rst ∧
    (s.loopExhausted).txReady = s.txReady ∧ (s.loopExhausted).codec = s.codec ∧ (s.loopExhausted).rdlog = s.rdlog ∧
    (s.loopExhausted).sched = s.sched ∧ (s.loopExhausted).drawn = s.drawn ∧ (s.loopExhausted).par = s.par := by
  unfold State.loopExhausted; (repeat' split) <;> simp

/-- `attempt_failed()` (R162) writes only T0, RESULT, STATUS and SEQ. -/
@[simp] theorem attemptFailed_frame (s : State) :
    (s.attemptFailed).rb = s.rb ∧ (s.attemptFailed).rlen = s.rlen ∧ (s.attemptFailed).opr = s.opr ∧
    (s.attemptFailed).att = s.att ∧ (s.attemptFailed).iatt = s.iatt ∧ (s.attemptFailed).acc = s.acc ∧
    (s.attemptFailed).rxq = s.rxq ∧ (s.attemptFailed).txlog = s.txlog ∧ (s.attemptFailed).openlog = s.openlog ∧
    (s.attemptFailed).now = s.now ∧ (s.attemptFailed).fault = s.fault ∧ (s.attemptFailed).rst = s.rst ∧
    (s.attemptFailed).txReady = s.txReady ∧ (s.attemptFailed).codec = s.codec ∧ (s.attemptFailed).rdlog = s.rdlog ∧
    (s.attemptFailed).sched = s.sched ∧ (s.attemptFailed).drawn = s.drawn ∧ (s.attemptFailed).par = s.par := by
  unfold State.attemptFailed; (repeat' split) <;> simp

/-- `start_reset_run()` (R167) writes ATT beside those. -/
@[simp] theorem startResetRun_frame (s : State) :
    (s.startResetRun).rb = s.rb ∧ (s.startResetRun).rlen = s.rlen ∧ (s.startResetRun).opr = s.opr ∧
    (s.startResetRun).iatt = s.iatt ∧ (s.startResetRun).acc = s.acc ∧ (s.startResetRun).rxq = s.rxq ∧
    (s.startResetRun).txlog = s.txlog ∧ (s.startResetRun).openlog = s.openlog ∧ (s.startResetRun).now = s.now ∧
    (s.startResetRun).fault = s.fault ∧ (s.startResetRun).rst = s.rst ∧ (s.startResetRun).txReady = s.txReady ∧
    (s.startResetRun).codec = s.codec ∧ (s.startResetRun).rdlog = s.rdlog ∧ (s.startResetRun).sched = s.sched ∧
    (s.startResetRun).drawn = s.drawn ∧ (s.startResetRun).par = s.par := by
  unfold State.startResetRun; (repeat' split) <;> simp

/-- `eval_reset` (R159). -/
@[simp] theorem evalReset_frame (s : State) (rx : Option Received) :
    (s.evalReset rx).rb = s.rb ∧ (s.evalReset rx).rlen = s.rlen ∧ (s.evalReset rx).opr = s.opr ∧
    (s.evalReset rx).att = s.att ∧ (s.evalReset rx).iatt = s.iatt ∧ (s.evalReset rx).acc = s.acc ∧
    (s.evalReset rx).rxq = s.rxq ∧ (s.evalReset rx).txlog = s.txlog ∧ (s.evalReset rx).openlog = s.openlog ∧
    (s.evalReset rx).now = s.now ∧ (s.evalReset rx).fault = s.fault ∧ (s.evalReset rx).rst = s.rst ∧
    (s.evalReset rx).txReady = s.txReady ∧ (s.evalReset rx).codec = s.codec ∧ (s.evalReset rx).rdlog = s.rdlog ∧
    (s.evalReset rx).sched = s.sched ∧ (s.evalReset rx).drawn = s.drawn ∧ (s.evalReset rx).par = s.par := by
  unfold State.evalReset; (repeat' split) <;> simp

/-- `eval_start` (R160). -/
@[simp] theorem evalStart_frame (s : State) (rx : Option Received) :
    (s.evalStart rx).rb = s.rb ∧ (s.evalStart rx).rlen = s.rlen ∧ (s.evalStart rx).opr = s.opr ∧
    (s.evalStart rx).att = s.att ∧ (s.evalStart rx).iatt = s.iatt ∧ (s.evalStart rx).acc = s.acc ∧
    (s.evalStart rx).rxq = s.rxq ∧ (s.evalStart rx).txlog = s.txlog ∧ (s.evalStart rx).openlog = s.openlog ∧
    (s.evalStart rx).now = s.now ∧ (s.evalStart rx).fault = s.fault ∧ (s.evalStart rx).rst = s.rst ∧
    (s.evalStart rx).txReady = s.txReady ∧ (s.evalStart rx).codec = s.codec ∧ (s.evalStart rx).rdlog = s.rdlog ∧
    (s.evalStart rx).sched = s.sched ∧ (s.evalStart rx).drawn = s.drawn ∧ (s.evalStart rx).par = s.par := by
  unfold State.evalStart; (repeat' split) <;> simp

/-- `eval_poll` (R161). -/
@[simp] theorem evalPoll_frame (s : State) (rx : Option Received) :
    (s.evalPoll rx).rb = s.rb ∧ (s.evalPoll rx).rlen = s.rlen ∧ (s.evalPoll rx).opr = s.opr ∧ (s.evalPoll rx).att = s.att ∧
    (s.evalPoll rx).iatt = s.iatt ∧ (s.evalPoll rx).t0 = s.t0 ∧ (s.evalPoll rx).acc = s.acc ∧ (s.evalPoll rx).rxq = s.rxq ∧
    (s.evalPoll rx).txlog = s.txlog ∧ (s.evalPoll rx).openlog = s.openlog ∧ (s.evalPoll rx).now = s.now ∧
    (s.evalPoll rx).fault = s.fault ∧ (s.evalPoll rx).rst = s.rst ∧ (s.evalPoll rx).txReady = s.txReady ∧
    (s.evalPoll rx).rdlog = s.rdlog ∧ (s.evalPoll rx).sched = s.sched ∧ (s.evalPoll rx).drawn = s.drawn ∧
    (s.evalPoll rx).par = s.par := by
  unfold State.evalPoll; (repeat' split) <;> simp

/-- EVAL never writes TXLOG, RB or the counters (R125). -/
@[simp] theorem evalBranch_frame (s : State) (rx : Option Received) :
    (s.evalBranch rx).rb = s.rb ∧ (s.evalBranch rx).rlen = s.rlen ∧ (s.evalBranch rx).opr = s.opr ∧
    (s.evalBranch rx).att = s.att ∧ (s.evalBranch rx).iatt = s.iatt ∧ (s.evalBranch rx).acc = s.acc ∧
    (s.evalBranch rx).rxq = s.rxq ∧ (s.evalBranch rx).txlog = s.txlog ∧ (s.evalBranch rx).openlog = s.openlog ∧
    (s.evalBranch rx).now = s.now ∧ (s.evalBranch rx).fault = s.fault ∧ (s.evalBranch rx).rst = s.rst ∧
    (s.evalBranch rx).txReady = s.txReady ∧ (s.evalBranch rx).rdlog = s.rdlog ∧ (s.evalBranch rx).sched = s.sched ∧
    (s.evalBranch rx).drawn = s.drawn ∧ (s.evalBranch rx).par = s.par := by
  unfold State.evalBranch; (repeat' split) <;> simp

/-- TX_CMD (R122). -/
@[simp] theorem sendCommand_frame (s : State) :
    (s.sendCommand).rb = s.rb ∧ (s.sendCommand).opr = s.opr ∧ (s.sendCommand).iatt = s.iatt ∧ (s.sendCommand).acc = s.acc ∧
    (s.sendCommand).status = s.status ∧ (s.sendCommand).result = s.result ∧ (s.sendCommand).rxq = s.rxq ∧
    (s.sendCommand).openlog = s.openlog ∧ (s.sendCommand).now = s.now ∧ (s.sendCommand).fault = s.fault ∧
    (s.sendCommand).rst = s.rst ∧ (s.sendCommand).txReady = s.txReady ∧ (s.sendCommand).codec = s.codec ∧
    (s.sendCommand).rdlog = s.rdlog ∧ (s.sendCommand).sched = s.sched ∧ (s.sendCommand).drawn = s.drawn ∧
    (s.sendCommand).par = s.par := by
  unfold State.sendCommand; (repeat' split) <;> simp

/-- TX_ACK (R132). -/
@[simp] theorem sendAck_frame (s : State) :
    (s.sendAck).rb = s.rb ∧ (s.sendAck).rlen = s.rlen ∧ (s.sendAck).opr = s.opr ∧ (s.sendAck).att = s.att ∧
    (s.sendAck).iatt = s.iatt ∧ (s.sendAck).t0 = s.t0 ∧ (s.sendAck).acc = s.acc ∧ (s.sendAck).rxq = s.rxq ∧
    (s.sendAck).openlog = s.openlog ∧ (s.sendAck).now = s.now ∧ (s.sendAck).fault = s.fault ∧ (s.sendAck).rst = s.rst ∧
    (s.sendAck).txReady = s.txReady ∧ (s.sendAck).codec = s.codec ∧ (s.sendAck).rdlog = s.rdlog ∧
    (s.sendAck).sched = s.sched ∧ (s.sendAck).drawn = s.drawn ∧ (s.sendAck).par = s.par := by
  unfold State.sendAck; (repeat' split) <;> simp

/-- `validate` writes no register (R104). -/
@[simp] theorem runValidate_frame (s : State) :
    (s.runValidate).rb = s.rb ∧ (s.runValidate).rlen = s.rlen ∧ (s.runValidate).seq = s.seq ∧ (s.runValidate).opr = s.opr ∧
    (s.runValidate).att = s.att ∧ (s.runValidate).iatt = s.iatt ∧ (s.runValidate).t0 = s.t0 ∧
    (s.runValidate).status = s.status ∧ (s.runValidate).result = s.result ∧ (s.runValidate).rxq = s.rxq ∧
    (s.runValidate).txlog = s.txlog ∧ (s.runValidate).openlog = s.openlog ∧ (s.runValidate).now = s.now ∧
    (s.runValidate).fault = s.fault ∧ (s.runValidate).rst = s.rst ∧ (s.runValidate).txReady = s.txReady ∧
    (s.runValidate).rdlog = s.rdlog ∧ (s.runValidate).sched = s.sched ∧ (s.runValidate).drawn = s.drawn ∧
    (s.runValidate).par = s.par := by
  unfold State.runValidate; (repeat' split) <;> simp

/-- An accepted request rewrites the per-operation registers (R150). -/
@[simp] theorem begin_frame (s : State) (op : HostOp) :
    (s.begin op).rb = s.rb ∧ (s.begin op).rlen = s.rlen ∧ (s.begin op).acc = s.acc ∧ (s.begin op).rxq = s.rxq ∧
    (s.begin op).txlog = s.txlog ∧ (s.begin op).openlog = s.openlog ∧ (s.begin op).now = s.now ∧
    (s.begin op).fault = s.fault ∧ (s.begin op).rst = s.rst ∧ (s.begin op).txReady = s.txReady ∧
    (s.begin op).codec = s.codec ∧ (s.begin op).rdlog = s.rdlog ∧ (s.begin op).sched = s.sched ∧
    (s.begin op).drawn = s.drawn ∧ (s.begin op).par = s.par := by
  unfold State.begin; (repeat' split) <;> simp

/-- A request touches FAULT beside those. -/
@[simp] theorem request_frame (s : State) (op : HostOp) :
    (s.request op).rb = s.rb ∧ (s.request op).rlen = s.rlen ∧ (s.request op).acc = s.acc ∧ (s.request op).rxq = s.rxq ∧
    (s.request op).txlog = s.txlog ∧ (s.request op).openlog = s.openlog ∧ (s.request op).now = s.now ∧
    (s.request op).rst = s.rst ∧ (s.request op).txReady = s.txReady ∧ (s.request op).codec = s.codec ∧
    (s.request op).rdlog = s.rdlog ∧ (s.request op).sched = s.sched ∧ (s.request op).drawn = s.drawn ∧
    (s.request op).par = s.par := by
  unfold State.request; (repeat' split) <;> simp

/-- R152. -/
@[simp] theorem requestReserved_frame (s : State) :
    (s.requestReserved).rb = s.rb ∧ (s.requestReserved).rlen = s.rlen ∧ (s.requestReserved).seq = s.seq ∧
    (s.requestReserved).opr = s.opr ∧ (s.requestReserved).att = s.att ∧ (s.requestReserved).iatt = s.iatt ∧
    (s.requestReserved).t0 = s.t0 ∧ (s.requestReserved).acc = s.acc ∧ (s.requestReserved).result = s.result ∧
    (s.requestReserved).rxq = s.rxq ∧ (s.requestReserved).txlog = s.txlog ∧ (s.requestReserved).openlog = s.openlog ∧
    (s.requestReserved).now = s.now ∧ (s.requestReserved).rst = s.rst ∧ (s.requestReserved).txReady = s.txReady ∧
    (s.requestReserved).codec = s.codec ∧ (s.requestReserved).rdlog = s.rdlog ∧ (s.requestReserved).sched = s.sched ∧
    (s.requestReserved).drawn = s.drawn ∧ (s.requestReserved).par = s.par := by
  unfold State.requestReserved; (repeat' split) <;> simp

/-- R163. -/
@[simp] theorem exitRetry_frame (s : State) :
    (s.exitRetry).rb = s.rb ∧ (s.exitRetry).rlen = s.rlen ∧ (s.exitRetry).opr = s.opr ∧ (s.exitRetry).att = s.att ∧
    (s.exitRetry).iatt = s.iatt ∧ (s.exitRetry).acc = s.acc ∧ (s.exitRetry).rxq = s.rxq ∧ (s.exitRetry).txlog = s.txlog ∧
    (s.exitRetry).openlog = s.openlog ∧ (s.exitRetry).now = s.now ∧ (s.exitRetry).fault = s.fault ∧
    (s.exitRetry).rst = s.rst ∧ (s.exitRetry).txReady = s.txReady ∧ (s.exitRetry).codec = s.codec ∧
    (s.exitRetry).rdlog = s.rdlog ∧ (s.exitRetry).sched = s.sched ∧ (s.exitRetry).drawn = s.drawn ∧
    (s.exitRetry).par = s.par := by
  unfold State.exitRetry; (repeat' split) <;> simp

/-- R164. -/
@[simp] theorem exitResetSettle_frame (s : State) :
    (s.exitResetSettle).rb = s.rb ∧ (s.exitResetSettle).rlen = s.rlen ∧ (s.exitResetSettle).opr = s.opr ∧
    (s.exitResetSettle).att = s.att ∧ (s.exitResetSettle).iatt = s.iatt ∧ (s.exitResetSettle).acc = s.acc ∧
    (s.exitResetSettle).rxq = s.rxq ∧ (s.exitResetSettle).txlog = s.txlog ∧ (s.exitResetSettle).openlog = s.openlog ∧
    (s.exitResetSettle).now = s.now ∧ (s.exitResetSettle).fault = s.fault ∧ (s.exitResetSettle).rst = s.rst ∧
    (s.exitResetSettle).txReady = s.txReady ∧ (s.exitResetSettle).codec = s.codec ∧ (s.exitResetSettle).rdlog = s.rdlog ∧
    (s.exitResetSettle).sched = s.sched ∧ (s.exitResetSettle).drawn = s.drawn ∧ (s.exitResetSettle).par = s.par := by
  unfold State.exitResetSettle; (repeat' split) <;> simp

/-- R165. -/
@[simp] theorem exitInitRetry_frame (s : State) :
    (s.exitInitRetry).rb = s.rb ∧ (s.exitInitRetry).rlen = s.rlen ∧ (s.exitInitRetry).opr = s.opr ∧
    (s.exitInitRetry).acc = s.acc ∧ (s.exitInitRetry).rxq = s.rxq ∧ (s.exitInitRetry).txlog = s.txlog ∧
    (s.exitInitRetry).openlog = s.openlog ∧ (s.exitInitRetry).now = s.now ∧ (s.exitInitRetry).fault = s.fault ∧
    (s.exitInitRetry).rst = s.rst ∧ (s.exitInitRetry).txReady = s.txReady ∧ (s.exitInitRetry).codec = s.codec ∧
    (s.exitInitRetry).rdlog = s.rdlog ∧ (s.exitInitRetry).sched = s.sched ∧ (s.exitInitRetry).drawn = s.drawn ∧
    (s.exitInitRetry).par = s.par := by
  unfold State.exitInitRetry; (repeat' split) <;> simp

/-- R155. -/
@[simp] theorem openStep_frame (s : State) :
    (s.openStep).rb = s.rb ∧ (s.openStep).rlen = s.rlen ∧ (s.openStep).opr = s.opr ∧ (s.openStep).acc = s.acc ∧
    (s.openStep).rxq = s.rxq ∧ (s.openStep).txlog = s.txlog ∧ (s.openStep).now = s.now ∧ (s.openStep).fault = s.fault ∧
    (s.openStep).rst = s.rst ∧ (s.openStep).txReady = s.txReady ∧ (s.openStep).codec = s.codec ∧
    (s.openStep).rdlog = s.rdlog ∧ (s.openStep).sched = s.sched ∧ (s.openStep).drawn = s.drawn ∧
    (s.openStep).par = s.par := by
  unfold State.openStep; (repeat' split) <;> simp

/-- R124. -/
@[simp] theorem drainStep_frame (s : State) :
    (s.drainStep).rb = s.rb ∧ (s.drainStep).rlen = s.rlen ∧ (s.drainStep).opr = s.opr ∧ (s.drainStep).att = s.att ∧
    (s.drainStep).iatt = s.iatt ∧ (s.drainStep).t0 = s.t0 ∧ (s.drainStep).acc = s.acc ∧ (s.drainStep).status = s.status ∧
    (s.drainStep).result = s.result ∧ (s.drainStep).txlog = s.txlog ∧ (s.drainStep).openlog = s.openlog ∧
    (s.drainStep).now = s.now ∧ (s.drainStep).fault = s.fault ∧ (s.drainStep).rst = s.rst ∧
    (s.drainStep).txReady = s.txReady ∧ (s.drainStep).codec = s.codec ∧ (s.drainStep).rdlog = s.rdlog ∧
    (s.drainStep).sched = s.sched ∧ (s.drainStep).drawn = s.drawn ∧ (s.drainStep).par = s.par := by
  unfold State.drainStep; (repeat' split) <;> simp

/-- Where a failed RESET run leads (R168). The last case is the operations that have no RESET run (log 14). -/
theorem resetRunFailed_cases (s : State) :
    (s.resetRunFailed = s.finish 0x00 ∧ (s.opr = .reset ∨ s.opr = .init ∧ s.par.initAttempts ≤ s.iatt)) ∨
    (s.resetRunFailed = s.enterWait .waitInitRetry ∧ s.opr = .init) ∨
    (s.resetRunFailed = s ∧ (s.opr = .start ∨ s.opr = .poll)) := by
  unfold State.resetRunFailed
  cases s.opr <;> simp only [reduceCtorEq, true_and, false_and, or_false, and_true, or_true, false_or, and_false]
  split <;> simp_all

/-- Where an exhausted loop leads (R168). -/
theorem loopExhausted_cases (s : State) :
    (s.loopExhausted = s.finish 0x00 ∧ s.opr ≠ .poll ∧ (s.opr = .init → s.par.initAttempts ≤ s.iatt)) ∨
    (s.loopExhausted = s.enterWait .waitInitRetry ∧ s.opr = .init) ∨
    (s.loopExhausted = s ∧ s.opr = .poll) := by
  rcases resetRunFailed_cases s with ⟨h, ho⟩ | ⟨h, ho⟩ | ⟨h, ho⟩ <;> unfold State.loopExhausted <;> cases hs : s.opr <;> simp_all

/-- Where a failed attempt leads (R162, R168). -/
theorem attemptFailed_cases (s : State) :
    (s.attemptFailed = s.enterWait .waitRetry ∧ (s.att < s.par.maxRetry ∨ s.par.delayAfterFinal = true)) ∨
    (s.par.maxRetry ≤ s.att ∧ s.attemptFailed = s.loopExhausted) := by
  unfold State.attemptFailed
  split <;> simp_all

/-- How a RESET run starts (R167). -/
theorem startResetRun_cases (s : State) :
    (s.par.maxRetry ≠ 0 ∧ s.startResetRun = { s with att := 0, seq := .txCmd }) ∨
    (s.par.maxRetry = 0 ∧ s.startResetRun = State.resetRunFailed { s with att := 0 }) := by
  unfold State.startResetRun
  split <;> simp_all

/-- Where EVAL leads: nowhere else, whatever the response (R159 to R161). -/
theorem evalBranch_cases (s : State) (rx : Option Received) :
    (s.evalBranch rx = s.enterWait .waitResetSettle ∧ (s.opr = .init ∨ s.opr = .reset) ∧ ∃ r, rx = some r ∧ r.cmd = Config.cmdAck) ∨
    (s.evalBranch rx = { s with seq := .txAck } ∧ s.opr = .start ∧ ∃ r, rx = some r ∧ r.cmd = Config.cmdAck) ∨
    (s.evalBranch rx = s.attemptFailed ∧ s.opr ≠ .poll) ∨
    (s.opr = .poll ∧ ∃ d, s.evalBranch rx = (s.showBill d).finish 0x00) ∨
    (s.opr = .poll ∧ ∃ d r, s.evalBranch rx = { s.showBill d with seq := .txAck } ∧ rx = some r ∧
      r.cmd = Config.cmdBill ∧ r.byte4 ≠ 0x00) := by
  unfold State.evalBranch
  cases hs : s.opr with
  | poll =>
    unfold State.evalPoll
    cases rx with
    | none => exact .inr (.inr (.inr (.inl ⟨rfl, s.codec.bill, rfl⟩)))
    | some r =>
      simp only
      split
      · next h => exact .inr (.inr (.inr (.inr ⟨trivial, _, r, rfl, rfl, h⟩)))
      · exact .inr (.inr (.inr (.inl ⟨trivial, _, rfl⟩)))
  | init => unfold State.evalReset; cases rx <;> simp only <;> (try split) <;> simp_all
  | reset => unfold State.evalReset; cases rx <;> simp only <;> (try split) <;> simp_all
  | start => unfold State.evalStart; cases rx <;> simp only <;> (try split) <;> simp_all

/-- What an accepted request comes to (R150): INIT and POLL always start; RESET and START start or, with MAX_RETRY = 0, finish
at once. -/
theorem begin_cases (s : State) (op : HostOp) :
    (op = .init ∧ s.begin op = { s with opr := op, att := 0, iatt := 0, status := s.status.accepted, seq := .opening }) ∨
    (op ≠ .init ∧ (op = .poll ∨ s.par.maxRetry ≠ 0) ∧
      s.begin op = { s with opr := op, att := 0, iatt := 0, status := s.status.accepted, seq := .txCmd }) ∨
    ((op = .reset ∨ op = .start) ∧ s.par.maxRetry = 0 ∧
      s.begin op = State.finish { s with opr := op, att := 0, iatt := 0, status := s.status.accepted } 0x00) := by
  cases op <;> unfold State.begin
  · exact .inl ⟨rfl, rfl⟩
  · unfold State.startResetRun State.resetRunFailed
    by_cases h : s.par.maxRetry = 0 <;> simp [h]
  · by_cases h : s.par.maxRetry = 0 <;> simp [h]
  · simp

/-- A request while idle is accepted, with FAULT recorded when no INIT has opened the transport (R150, R153); while busy only
FAULT is touched (R151). -/
theorem request_cases (s : State) (op : HostOp) :
    (s.status.busy = true ∧ s.request op = s.raiseFault .hostBusy) ∨
    (s.status.busy = false ∧ (s.request op = s.begin op ∨ s.request op = (s.raiseFault .notOpened).begin op)) := by
  unfold State.request
  repeat' split
  all_goals simp_all

/-- An accepted request that finishes at once enters no wait, so T0 is kept (R150, R167). -/
@[simp] theorem request_t0 (s : State) (op : HostOp) : (s.request op).t0 = s.t0 := by
  unfold State.request State.begin State.startResetRun State.resetRunFailed
  by_cases h : s.par.maxRetry = 0 <;> cases op <;> simp [h] <;> (repeat' split) <;> simp_all [State.raiseFault, State.finish]

/-- EVAL's branch never writes the output wire of `validate` (R125). -/
@[simp] theorem evalBranch_codec_valid (s : State) (rx : Option Received) :
    (s.evalBranch rx).codec.valid = s.codec.valid := by
  unfold State.evalBranch State.evalReset State.evalStart State.evalPoll
  (repeat' split) <;> simp [State.finish, State.enterWait, State.showBill]

end Sys2Proof.Machine
end

