-- ==== Sys2Proof/Laws/PerInstr.lean ====
section
/-! SUPPORT. Laws/PerInstr.lean: statements made per instruction. -/

namespace Sys2Proof.Laws.EncodedLength

/-- A well-formed instruction fits the unit its channel moves: one byte on the host port (10_state.md R32), 5 to 16 bytes on
the wire (30_encoding.md R71), none for a codec function. -/
def Statement (i : Instr) : Prop :=
  i.wf = true →
    match i.channel with
    | some .hostPort => (encode i).length = 1
    | some .wire => 5 ≤ (encode i).length ∧ (encode i).length ≤ 16
    | none => encode i = []

/-- A frame that fits RB has 5 to 16 bytes. -/
theorem length_frameBytes {cmd : Byte} {f : Frame} (h : f.wf cmd = true) :
    5 ≤ (Machine.frameBytes cmd f).length ∧ (Machine.frameBytes cmd f).length ≤ 16 := by
  cases f with
  | bare a => simp [Machine.frameBytes, Machine.frameBody, Machine.crcTrailer]
  | full a d =>
    simp only [Frame.wf, Config.rbCap, decide_eq_true_eq] at h
    simp [Machine.frameBytes, Machine.frameBody, Machine.crcTrailer]
    omega

theorem init (rsv : BitVec 5) : Statement (.init rsv) := fun _ => rfl
theorem reset (rsv : BitVec 5) : Statement (.reset rsv) := fun _ => rfl
theorem start (rsv : BitVec 5) : Statement (.start rsv) := fun _ => rfl
theorem poll (rsv : BitVec 5) : Statement (.poll rsv) := fun _ => rfl
theorem reservedOp (rsv : BitVec 5) (code : BitVec 2) : Statement (.reservedOp rsv code) := fun _ => rfl
theorem frameReset (f : Frame) : Statement (.frameReset f) := length_frameBytes
theorem framePoll (f : Frame) : Statement (.framePoll f) := length_frameBytes
theorem frameStart (f : Frame) : Statement (.frameStart f) := length_frameBytes
theorem frameAck (f : Frame) : Statement (.frameAck f) := length_frameBytes
theorem frameBillEvent (f : Frame) : Statement (.frameBillEvent f) := length_frameBytes
theorem frameUnexpected (cmd : Byte) (f : Frame) : Statement (.frameUnexpected cmd f) := fun h =>
  length_frameBytes (Bool.and_eq_true_iff.1 h).2
theorem crc16 (d : List Byte) : Statement (.crc16 d) := fun _ => rfl
theorem validate : Statement .validate := fun _ => rfl
theorem billType : Statement .billType := fun _ => rfl

end Sys2Proof.Laws.EncodedLength
end

