-- ==== Sys2Proof/Laws/Step.lean ====
section
/-! SUPPORT. Laws/Step.lean: what one step can do, said once. `step_elim` lists every next state a step can answer; a proof
about all steps gives one argument per case instead of unfolding the step. -/

namespace Sys2Proof.Machine

@[simp] theorem length_response (s : State) : s.response.length = s.rlen.val := by simp [State.response]

@[simp] theorem runValidate_response (s : State) : s.runValidate.response = s.response := by simp [State.response]

@[simp] theorem runValidate_par (s : State) : s.runValidate.par = s.par := by simp

/-- EVAL of the response in RB runs the branch on what the response shows (R125). -/
theorem exec_rowOf_eval {s : State} {b : List Byte} (hs : s.seq = .eval) (hb : wireFault b = none) :
    exec (rowOf (byteAt b 3) (frameOf b)) s = .next (s.evalBranch (some ⟨byteAt b 3, byteAt b 4⟩)) := by
  have hf := frameBytes_frameOf hb
  have key : exec (rowOf (byteAt b 3) (frameOf b)) s = .next (s.receive (byteAt b 3) (frameOf b)) := by
    unfold rowOf
    repeat' split
    all_goals simp_all [exec, execFrameReset, execFramePoll, execFrameStart, execFrameAck, execFrameBillEvent,
      execFrameUnexpected, State.commandFrame, State.ackFrameStep, State.receivedFrame]
  rw [key, State.receive, receivedOf, hf]

/-- EVAL, whatever the response is. -/
theorem evalFetch_outcome {s : State} (hs : s.seq = .eval) :
    s.evalFetch.outcome = .next (s.runValidate.evalBranch s.responseSeen) := by
  have h16 : s.response.length ≤ 16 := by rw [length_response]; omega
  unfold State.evalFetch decodeFrame State.responseSeen
  cases hw : wireFault s.response with
  | some r =>
    have : validate s.response = false := by
      cases hv : validate s.response
      · rfl
      · rw [(wireFault_none_iff _).2 ⟨hv, h16⟩] at hw; cases hw
    simp [this, Fetched.outcome]
  | none =>
    simp only [((wireFault_none_iff _).1 hw).1, if_true, Fetched.outcome]
    exact exec_rowOf_eval (by simpa using hs) hw

/-- TX_CMD sends the command of OPR (R122). -/
theorem exec_commandInstr {s : State} (hs : s.seq = .txCmd) : exec (commandInstr s.opr) s = .next s.sendCommand := by
  have h1 : frameBytes Config.cmdReset (.full Config.addrHost []) = resetFrame := by decide +kernel
  have h2 : frameBytes Config.cmdPoll (.full Config.addrHost []) = pollFrame := by decide +kernel
  have h3 : frameBytes Config.cmdStart (.full Config.addrHost [0, 0, 0xFC, 0, 0, 0]) = startFrame := by decide +kernel
  cases ho : s.opr <;>
    simp only [commandInstr, exec, execFrameReset, execFramePoll, execFrameStart, State.commandFrame, hs, ho, frameFor, h1, h2,
      h3, if_true]

/-- TX_ACK sends ACK (R132). -/
theorem exec_ackInstr {s : State} (hs : s.seq = .txAck) : exec ackInstr s = .next s.sendAck := by
  have h : frameBytes Config.cmdAck (.full Config.addrHost []) = ackFrame := by decide +kernel
  simp only [ackInstr, exec, execFrameAck, State.ackFrameStep, hs, h, if_true]

/-- A write to OPREQ is one of the four requests or a reserved code (R82, R83). -/
theorem exec_decodeOpreq (b : Byte) (s : State) :
    (∃ op, exec (decodeOpreq b) s = .next (s.request op)) ∨ exec (decodeOpreq b) s = .next s.requestReserved := by
  unfold decodeOpreq
  simp only
  repeat' split
  · exact .inl ⟨.init, rfl⟩
  · exact .inl ⟨.reset, rfl⟩
  · exact .inl ⟨.start, rfl⟩
  · exact .inl ⟨.poll, rfl⟩
  · exact .inr rfl

/-- OPREQ[2] set is a reserved code (R83). -/
theorem exec_decodeOpreq_reserved {b : Byte} (s : State) (h : b.getLsbD 2 = true) :
    exec (decodeOpreq b) s = .next s.requestReserved := by
  have key : ∀ b : Byte, b.getLsbD 2 = true → decodeOpreq b = .reservedOp (b.extractLsb' 3 5) (b.extractLsb' 0 2) := by
    decide +kernel
  rw [key b h]; rfl

/-- Outside TX_CMD, EVAL and TX_ACK a FRAME row has no effect (log 13). -/
theorem exec_frame_elsewhere {s : State} (f : Frame) (cmd : Byte) (h1 : s.seq ≠ .txCmd) (h2 : s.seq ≠ .eval)
    (h3 : s.seq ≠ .txAck) :
    ∀ i ∈ [Instr.frameReset f, .framePoll f, .frameStart f, .frameAck f, .frameBillEvent f, .frameUnexpected cmd f],
      exec i s = .next s := by
  intro i hi
  simp at hi
  rcases hi with rfl | rfl | rfl | rfl | rfl | rfl <;> cases hs : s.seq <;>
    simp_all [exec, execFrameReset, execFramePoll, execFrameStart, execFrameAck, execFrameBillEvent, execFrameUnexpected,
      State.commandFrame, State.ackFrameStep, State.receivedFrame]

/-- Every next state a step can answer. `u` is the state once the act is taken. -/
theorem step_elim {s t u : State} {Q : State → Prop} (h : step s = .next t) (hu : s.nextAct.2 = u)
    (reset : ∀ level, s.nextAct.1 = .rst level → level = true ∨ u.rst = true → Q { u.resetBlock with rst := level })
    (held : u.rst = true → Q u.resetBlock)
    (heldRead : ∀ off, u.rst = true → Q (u.resetBlock.hostRead off))
    (transport : ∀ accepts, Q { u with txReady := accepts })
    (peripheral : ∀ bytes, s.nextAct.1 = .peripheral bytes → Q { u with rxq := u.rxq ++ bytes })
    (clock : ∀ ms, Q { u with now := u.now + ms })
    (same : u.rst = false → Q u)
    (read : ∀ off, u.rst = false → Q (u.hostRead off))
    (request : ∀ b op, u.rst = false → s.nextAct.1 = .host (.write 0 b) → Q (u.request op))
    (reserved : ∀ b, u.rst = false → s.nextAct.1 = .host (.write 0 b) → Q u.requestReserved)
    (opening : u.rst = false → s.nextAct.1 = .block → u.seq = .opening → Q u.openStep)
    (command : u.rst = false → s.nextAct.1 = .block → u.seq = .txCmd → Q u.sendCommand)
    (deadline : u.rst = false → s.nextAct.1 = .block → u.seq = .collect → Q { u with seq := .eval })
    (store : ∀ b q hr, u.rst = false → s.nextAct.1 = .block → u.seq = .collect → u.rxq = b :: q → Q (u.store b q hr))
    (drain : u.rst = false → s.nextAct.1 = .block → u.seq = .drain → Q u.drainStep)
    (eval : u.rst = false → s.nextAct.1 = .block → u.seq = .eval → Q (u.runValidate.evalBranch u.responseSeen))
    (waitRetry : u.rst = false → s.nextAct.1 = .block → u.seq = .waitRetry → Q u.exitRetry)
    (waitResetSettle : u.rst = false → s.nextAct.1 = .block → u.seq = .waitResetSettle → Q u.exitResetSettle)
    (waitInitRetry : u.rst = false → s.nextAct.1 = .block → u.seq = .waitInitRetry → Q u.exitInitRetry)
    (waitInitSettle : u.rst = false → s.nextAct.1 = .block → u.seq = .waitInitSettle → Q u.exitInitSettle)
    (ack : u.rst = false → s.nextAct.1 = .block → u.seq = .txAck → Q u.sendAck) : Q t := by
  unfold step State.fetch at h
  rw [hu] at h
  cases he : s.nextAct.1 with
  | rst level =>
    cases level <;> cases hr : u.rst <;>
      simp [he, State.actFetch, hr, Fetched.outcome] at h
    · exact h ▸ same hr
    · exact h ▸ reset false he (.inr hr)
    · exact h ▸ reset true he (.inl rfl)
    · exact h ▸ reset true he (.inl rfl)
  | transport accepts =>
    simp only [he, State.actFetch, Fetched.outcome, Host.Outcome.next.injEq] at h
    exact h ▸ transport accepts
  | peripheral bytes =>
    simp only [he, State.actFetch, Fetched.outcome, Host.Outcome.next.injEq] at h
    exact h ▸ peripheral bytes he
  | clock ms =>
    simp only [he, State.actFetch, Fetched.outcome, Host.Outcome.next.injEq] at h
    exact h ▸ clock ms
  | host a =>
    cases hr : u.rst with
    | true =>
      cases a <;> simp [he, State.actFetch, hr, State.hostFetch, Fetched.outcome] at h
      · exact h ▸ held hr
      · exact h ▸ heldRead _ hr
    | false =>
      cases a with
      | read off =>
        simp [he, State.actFetch, hr, State.hostFetch, Fetched.outcome] at h
        exact h ▸ read off hr
      | write off b =>
        simp only [he, State.actFetch, hr, State.hostFetch, Bool.false_eq_true, if_false] at h
        by_cases h0 : off = 0
        · subst h0
          simp only [if_true, Fetched.outcome] at h
          rcases exec_decodeOpreq b u with ⟨op, hop⟩ | hop
          · simp [hop] at h; exact h ▸ request b op hr he
          · simp [hop] at h; exact h ▸ reserved b hr he
        · rw [if_neg h0] at h
          simp only [Fetched.outcome, Host.Outcome.next.injEq] at h
          exact h ▸ same hr
  | block =>
    cases hr : u.rst with
    | true =>
      simp [he, State.actFetch, hr, Fetched.outcome] at h
      exact h ▸ held hr
    | false =>
      simp only [he, State.actFetch, hr, Bool.false_eq_true, if_false, State.blockFetch] at h
      cases hs : u.seq with
      | idle => simp [hs, Fetched.outcome] at h; exact h ▸ same hr
      | opening => simp [hs, Fetched.outcome] at h; exact h ▸ opening hr he hs
      | txCmd => simp [hs, Fetched.outcome, exec_commandInstr hs] at h; exact h ▸ command hr he hs
      | collect =>
        simp only [hs, State.collectStep] at h
        by_cases hd : u.timeoutFor ≤ u.elapsed
        · simp [hd, Fetched.outcome] at h; exact h ▸ deadline hr he hs
        · cases hq : u.rxq with
          | nil => simp [hd, hq, Fetched.outcome] at h; exact h ▸ same hr
          | cons b q =>
            by_cases hl : u.rlen.val < 16
            · simp [hd, hq, hl, Fetched.outcome] at h; exact h ▸ store b q hl hr he hs hq
            · simp [hd, hq, hl, Fetched.outcome] at h
      | drain => simp [hs, Fetched.outcome] at h; exact h ▸ drain hr he hs
      | eval => simp only [hs, evalFetch_outcome hs, Host.Outcome.next.injEq] at h; exact h ▸ eval hr he hs
      | waitRetry =>
        simp [hs, Fetched.outcome, State.waitStep] at h
        split at h
        · exact h ▸ waitRetry hr he hs
        · exact h ▸ same hr
      | waitResetSettle =>
        simp [hs, Fetched.outcome, State.waitStep] at h
        split at h
        · exact h ▸ waitResetSettle hr he hs
        · exact h ▸ same hr
      | waitInitRetry =>
        simp [hs, Fetched.outcome, State.waitStep] at h
        split at h
        · exact h ▸ waitInitRetry hr he hs
        · exact h ▸ same hr
      | waitInitSettle =>
        simp [hs, Fetched.outcome, State.waitStep] at h
        split at h
        · exact h ▸ waitInitSettle hr he hs
        · exact h ▸ same hr
      | txAck => simp [hs, Fetched.outcome, exec_ackInstr hs] at h; exact h ▸ ack hr he hs

/-- Taking the next act changes the schedule and the draw counter only. -/
@[simp] theorem nextAct_frame (s : State) :
    s.nextAct.2.rb = s.rb ∧ s.nextAct.2.rlen = s.rlen ∧ s.nextAct.2.seq = s.seq ∧ s.nextAct.2.opr = s.opr ∧
    s.nextAct.2.att = s.att ∧ s.nextAct.2.iatt = s.iatt ∧ s.nextAct.2.t0 = s.t0 ∧ s.nextAct.2.acc = s.acc ∧
    s.nextAct.2.status = s.status ∧ s.nextAct.2.result = s.result ∧ s.nextAct.2.rxq = s.rxq ∧ s.nextAct.2.txlog = s.txlog ∧
    s.nextAct.2.openlog = s.openlog ∧ s.nextAct.2.now = s.now ∧ s.nextAct.2.fault = s.fault ∧ s.nextAct.2.rst = s.rst ∧
    s.nextAct.2.txReady = s.txReady ∧ s.nextAct.2.codec = s.codec ∧ s.nextAct.2.rdlog = s.rdlog ∧
    s.nextAct.2.par = s.par := by
  unfold State.nextAct; split <;> simp

end Sys2Proof.Machine
end

