-- ==== Sys2Proof/Tests/Slice0.lean ====
section
/-! SUPPORT. Tests/Slice0.lean: the model's own tests. Words and expected results are written out from 30_encoding.md and
95_test_vectors.md; the `witness_` theorems show, for every obligation with hypotheses, states and operands that meet them. -/

namespace Sys2Proof.Tests

open Sys2Proof Sys2Proof.Machine

-- Many small kernel evaluations: one after another, so that they do not each take a thread.
set_option Elab.async false

/-! ### Helpers -/

/-- A state in sequencer state `q` of operation `o`, opened, with the acts `e` to come and BAUD 9600. -/
def at_ (q : Machine.Seq) (o : HostOp) (e : List Config.Event) : State :=
  { State.reset with
    seq := q, opr := o, sched := e, status := ⟨q != .idle, false, false, true⟩,
    par := { Config.Params.standard with baud := 9600 } }

/-- The same with a response in RB. -/
def holding (s : State) (b : List Byte) : State :=
  { s with rb := Memory.writeAll [] 0 b, rlen := Fin.ofNat 17 b.length }

/-- The next state of an outcome, if it is one. -/
def nextOf : Host.Outcome State Fault Refusal → Option State
  | .next t => some t
  | .fault _ => none
  | .refused _ => none

/-- One field of the next state. -/
def field {α : Type} (f : State → α) (o : Host.Outcome State Fault Refusal) : Option α := (nextOf o).map f

/-- The outcome is the refusal of BILL_TYPE. -/
def refusesBill : Host.Outcome State Fault Refusal → Bool
  | .next _ => false
  | .fault _ => false
  | .refused r => r = .billTypeUnvalidated

def ackBytes : List Byte := [0x02, 0x03, 0x06, 0x00, 0xC2, 0x82]
def billBytes : List Byte := [0x02, 0x03, 0x07, 0x81, 0x03, 0xCF, 0x18]
/-- V-BILL-3: a bill event with denomination 0. -/
def bill0Bytes : List Byte := [0x02, 0x03, 0x07, 0x81, 0x00, 0x54, 0x2A]
/-- V-VAL-9: the largest frame. -/
def longBytes : List Byte :=
  [0x02, 0x03, 0x10, 0x81, 0x07, 0x00, 0x00, 0x00, 0x00, 0x00, 0x00, 0x00, 0x00, 0x00, 0x84, 0xE5]
/-- The default parameters with other limits. -/
def limits (maxRetry initAttempts : Nat) (delay : Bool) : Config.Params :=
  { Config.Params.standard with maxRetry := maxRetry, initAttempts := initAttempts, delayAfterFinal := delay, baud := 9600 }
def idle : State := at_ .idle .init []
def busy : State := at_ .collect .poll []

/-! ### WellFormed: each check refuses an ill-formed term (R71, R72, R79) -/

theorem test_wf_data_too_long : (Instr.frameReset (.full 3 (List.replicate 11 0))).wf = false := by decide
theorem test_wf_data_longest : (Instr.frameReset (.full 3 (List.replicate 10 0))).wf = true := by decide
/-- V-VAL-3: the CRC_LO of `02 03 05` is 0x7D, so a bare frame with ADDR 3 is no RESET frame. -/
theorem test_wf_bare_of_wrong_row : (Instr.frameReset (.bare 0x03)).wf = false := by decide +kernel
theorem test_wf_bare_of_its_row : (Instr.frameUnexpected 0x7D (.bare 0x03)).wf = true := by decide +kernel
theorem test_wf_bare_of_wrong_code : (Instr.frameUnexpected 0x7E (.bare 0x03)).wf = false := by decide +kernel
theorem test_wf_assigned_code_is_not_unexpected : (Instr.frameUnexpected 0x81 (.full 3 [])).wf = false := by decide

/-! ### Decoding: words written out from R75 to R84 and 95_test_vectors.md -/

theorem test_decode_init : decode .hostPort [0x00] = .ok (.init 0) := by decide
theorem test_decode_reset : decode .hostPort [0x01] = .ok (.reset 0) := by decide
theorem test_decode_start : decode .hostPort [0x02] = .ok (.start 0) := by decide
theorem test_decode_poll : decode .hostPort [0x03] = .ok (.poll 0) := by decide
theorem test_decode_reserved_op : decode .hostPort [0x04] = .ok (.reservedOp 0 0) ∧
    decode .hostPort [0x07] = .ok (.reservedOp 0 3) := by decide
/-- V-HOST-6. -/
theorem test_decode_ignored_bits : decode .hostPort [0xF9] = .ok (.reset 31) := by decide
theorem test_decode_one_byte_only : decode .hostPort [0x00, 0x00] = .error .notOneByte := by decide
theorem test_decode_frame_reset :
    decode .wire [0x02, 0x03, 0x06, 0x30, 0x41, 0xB3] = .ok (.frameReset (.full 3 [])) := by decide +kernel
theorem test_decode_frame_poll :
    decode .wire [0x02, 0x03, 0x06, 0x33, 0xDA, 0x81] = .ok (.framePoll (.full 3 [])) := by decide +kernel
theorem test_decode_frame_start :
    decode .wire [0x02, 0x03, 0x0C, 0x34, 0x00, 0x00, 0xFC, 0x00, 0x00, 0x00, 0x08, 0xEC] =
      .ok (.frameStart (.full 3 [0, 0, 0xFC, 0, 0, 0])) := by decide +kernel
theorem test_decode_frame_ack : decode .wire ackBytes = .ok (.frameAck (.full 3 [])) := by decide +kernel
/-- V-VAL-8. -/
theorem test_decode_other_addr :
    decode .wire [0x02, 0x01, 0x06, 0x00, 0x7A, 0x37] = .ok (.frameAck (.full 1 [])) := by decide +kernel
theorem test_decode_frame_bill_event : decode .wire billBytes = .ok (.frameBillEvent (.full 3 [3])) := by decide +kernel
theorem test_decode_longest :
    decode .wire longBytes = .ok (.frameBillEvent (.full 3 [7, 0, 0, 0, 0, 0, 0, 0, 0, 0])) := by decide +kernel
/-- V-VAL-15. -/
theorem test_decode_frame_unexpected :
    decode .wire [0x02, 0x03, 0x06, 0xFF, 0xBA, 0x8D] = .ok (.frameUnexpected 0xFF (.full 3 [])) := by decide +kernel
/-- V-VAL-1, 2, 4, 5, 6, 7, in the order of R181's codes. -/
theorem test_decode_rejects :
    decode .wire [] = .error .silence ∧ decode .wire [0x02, 0x03, 0x04, 0x00] = .error .short ∧
    decode .wire [0x03, 0x03, 0x06, 0x00, 0xC2, 0x82] = .error .badSync ∧
    decode .wire [0x02, 0x03, 0x06, 0x00, 0xC2, 0x82, 0x00] = .error .badLength ∧
    decode .wire [0x02, 0x03, 0x06, 0x00, 0xC3, 0x82] = .error .badCrc ∧
    decode .wire [0x02, 0x03, 0x06, 0x00, 0x82, 0xC2] = .error .badCrc ∧
    decode .wire (longBytes ++ [0]) = .error .overrun := by decide +kernel
theorem test_encode_start :
    encode (.frameStart (.full 3 [0, 0, 0xFC, 0, 0, 0])) = [0x02, 0x03, 0x0C, 0x34, 0, 0, 0xFC, 0, 0, 0, 0x08, 0xEC] := by
  decide +kernel
theorem test_encode_reserved_op : encode (.reservedOp 0 1) = [0x05] := by decide

/-! ### CRC unit: V-CRC-2, 4, 5, 10, 14, 16, 19 -/

theorem test_crc_bit : crcBit 0x0001 = 0x8408 ∧ crcBit 0x0002 = 0x0001 ∧ crcBit 0xFFFF = 0xFBF7 := by decide +kernel
theorem test_crc_byte : crcByte 0 0x02 = 0x2312 ∧ crcByte 0 0x80 = 0x8408 ∧ crcByte 0 0xFF = 0x0F78 := by decide +kernel
theorem test_crc16_check_value : crc16 [0x31, 0x32, 0x33, 0x34, 0x35, 0x36, 0x37, 0x38, 0x39] = 0x2189 := by decide +kernel
theorem test_crc16_start : crc16 [0x02, 0x03, 0x0C, 0x34, 0, 0, 0xFC, 0, 0, 0] = 0xEC08 := by decide +kernel
theorem test_crc_seed : crcFrom 0x2312 [0x03, 0x06, 0x30] = 0xB341 ∧ crc16 [0x03, 0x06, 0x30] = 0x8A37 := by decide +kernel

/-! ### One step of each instruction -/

/-- V-HOST-1. -/
theorem test_init_opens : field (fun t => (t.seq, t.opr, t.status.toByte, t.fault)) (exec (.init 0) State.reset) =
    some (.opening, .init, 0x01, none) := by decide
/-- V-HOST-6. -/
theorem test_reset_starts :
    field (fun t => (t.seq, t.opr, t.status.toByte, t.fault))
      (exec (.reset 31) { idle with status := ⟨false, true, false, true⟩ }) = some (.txCmd, .reset, 0x09, none) := by decide
/-- V-HOST-3. -/
theorem test_reset_while_busy :
    field (fun t => (t.seq, t.opr, t.status.toByte, t.fault)) (exec (.reset 0) busy) =
      some (.collect, .poll, 0x09, some .hostBusy) := by decide
/-- V-HOST-8. -/
theorem test_start_with_no_attempts :
    field (fun t => (t.seq, t.status.toByte, t.result, t.txlog, t.fault))
      (exec (.start 0) { idle with status := ⟨false, true, false, true⟩, par := { idle.par with maxRetry := 0 } }) =
      some (.idle, 0x0A, 0x00, [], none) := by decide
/-- V-HOST-2. -/
theorem test_poll_starts :
    field (fun t => (t.seq, t.opr, t.status.toByte, t.fault)) (exec (.poll 0) idle) = some (.txCmd, .poll, 0x09, none) := by
  decide
/-- V-HOST-5. -/
theorem test_poll_before_init :
    field (fun t => (t.seq, t.status.toByte, t.fault)) (exec (.poll 0) State.reset) =
      some (.txCmd, 0x01, some .notOpened) := by decide
/-- V-HOST-4. -/
theorem test_reserved_op :
    field (fun t => (t.seq, t.status.toByte, t.fault))
      (exec (.reservedOp 0 1) { idle with status := ⟨false, true, false, true⟩ }) = some (.idle, 0x0E, some .badOp) := by decide
/-- V-HOST-7. -/
theorem test_reserved_op_while_busy :
    field (fun t => (t.status.toByte, t.fault)) (exec (.reservedOp 0 3) busy) = some (0x09, some .hostBusy) := by decide
/-- The example of R122. -/
theorem test_frame_reset_sent :
    field (fun t => (t.txlog, t.att, t.rlen, t.seq)) (exec (.frameReset (.full 3 [])) (at_ .txCmd .reset [])) =
      some ([0x02, 0x03, 0x06, 0x30, 0x41, 0xB3], 1, 0, .collect) := by decide +kernel
/-- R159: a RESET echo fails the attempt. -/
theorem test_frame_reset_received :
    field (fun t => (t.seq, t.txlog)) (exec (.frameReset (.full 3 [])) { at_ .eval .reset [] with att := 1 }) =
      some (.waitRetry, []) := by decide +kernel
theorem test_frame_poll_sent :
    field (fun t => (t.txlog, t.seq)) (exec (.framePoll (.full 3 [])) (at_ .txCmd .poll [])) =
      some ([0x02, 0x03, 0x06, 0x33, 0xDA, 0x81], .collect) := by decide +kernel
/-- R193: the transport does not accept. -/
theorem test_frame_poll_held :
    field (fun t => (t.txlog, t.seq, t.att)) (exec (.framePoll (.full 3 [])) { at_ .txCmd .poll [] with txReady := false }) =
      some ([], .txCmd, 0) := by decide +kernel
theorem test_frame_start_sent :
    field (fun t => (t.txlog, t.seq)) (exec (.frameStart (.full 3 [0, 0, 0xFC, 0, 0, 0])) (at_ .txCmd .start [])) =
      some ([0x02, 0x03, 0x0C, 0x34, 0, 0, 0xFC, 0, 0, 0, 0x08, 0xEC], .collect) := by decide +kernel
/-- V-SEQ-6, its last attempt: the START echo fails it and the loop is used up. -/
theorem test_frame_start_received :
    field (fun t => (t.seq, t.result, t.status.toByte))
      (exec (.frameStart (.full 3 [0, 0, 0xFC, 0, 0, 0])) { at_ .eval .start [] with att := 3 }) =
      some (.idle, 0x00, 0x0A) := by decide +kernel
/-- The example of R132. -/
theorem test_frame_ack_sent :
    field (fun t => (t.txlog, t.result, t.seq)) (exec (.frameAck (.full 3 [])) (holding (at_ .txAck .poll []) billBytes)) =
      some (ackBytes, 0x03, .idle) := by decide +kernel
/-- The example of R160. -/
theorem test_frame_ack_received :
    field (fun t => (t.seq, t.txlog)) (exec (.frameAck (.full 3 [])) (at_ .eval .start [])) = some (.txAck, []) := by
  decide +kernel
/-- V-BILL-6: in a LEN 6 frame byte 4 is CRC_LO. -/
theorem test_frame_bill_event :
    field (fun t => (t.seq, t.codec.bill)) (exec (.frameBillEvent (.full 3 [])) (at_ .eval .poll [])) =
      some (.txAck, some 0x43) := by decide +kernel
/-- V-BILL-3. -/
theorem test_frame_bill_event_zero :
    field (fun t => (t.seq, t.result, t.status.toByte)) (exec (.frameBillEvent (.full 3 [0])) (at_ .eval .poll [])) =
      some (.idle, 0x00, 0x0A) := by decide +kernel
/-- R85 for POLL. -/
theorem test_frame_unexpected :
    field (fun t => (t.seq, t.result)) (exec (.frameUnexpected 0xFF (.full 3 [])) (at_ .eval .poll [])) =
      some (.idle, 0x00) := by decide +kernel
/-- The example of R100. -/
theorem test_crc16 : field (fun t => t.acc) (exec (.crc16 [0x02, 0x03, 0x06, 0x30]) idle) = some 0xB341 := by decide +kernel
/-- The example of R104, and V-VAL-6. -/
theorem test_validate :
    field (fun t => t.codec.valid) (exec .validate (holding busy ackBytes)) = some true ∧
    field (fun t => t.codec.valid) (exec .validate (holding busy [0x02, 0x03, 0x06, 0x00, 0xC3, 0x82])) = some false := by
  decide +kernel
/-- The examples of R107. -/
theorem test_bill_type :
    field (fun t => t.codec.bill) (exec .billType (holding busy billBytes)) = some (some 0x03) ∧
    field (fun t => t.codec.bill) (exec .billType (holding busy ackBytes)) = some none := by decide +kernel
/-- R108. -/
theorem test_bill_type_unvalidated : refusesBill (exec .billType State.reset) = true := by decide +kernel

/-! ### Steps no row names, and table words -/

/-- The example of R123. -/
theorem test_collect :
    field (fun t => (t.rb.read 2, t.rlen, t.rxq, t.seq))
      (step { at_ .collect .poll [.block] with t0 := 1000, now := 1040, rlen := 2, rxq := [0x06] }) =
      some (0x06, 3, [], .collect) := by decide +kernel
/-- The example of R155. -/
theorem test_open :
    field (fun t => (t.openlog, t.iatt, t.seq)) (step (at_ .opening .init [.block])) = some ([9600], 1, .txCmd) := by
  decide +kernel
/-- The example of R163. -/
theorem test_wait_retry :
    field (fun t => t.seq) (step { at_ .waitRetry .reset [.block] with att := 1, now := 100 }) = some .txCmd := by
  decide +kernel
/-- Reset wins over a busy block (R187 (e)); RXQ is kept (R210). -/
theorem test_rst :
    field (fun t => (t.seq, t.status.toByte, t.rxq)) (step { at_ .collect .poll [.rst true] with rxq := [0x55] }) =
      some (.idle, 0x00, [0x55]) := by decide +kernel
/-- R210, R199: driving RST released while it is released aborts nothing; releasing it is a reset. -/
theorem test_rst_released :
    field (fun t => (t.seq, t.status.toByte)) (step { at_ .collect .poll [.rst false] with result := 0x07 }) =
      some (.collect, 0x09) ∧
    field (fun t => (t.seq, t.status.toByte, t.rst)) (step { at_ .collect .poll [.rst false] with rst := true }) =
      some (.idle, 0x00, false) := by decide +kernel
/-- R191 across the wrap of TW = 32 bits. -/
theorem test_elapsed_wraps : ({ idle with t0 := 2 ^ 32 - 10, now := 2 ^ 32 + 5 } : State).elapsed = 15 := by decide +kernel
theorem test_table_words :
    decodeTableWord 8 0x00 = some (.init 0) ∧ decodeTableWord 8 0x03 = some (.poll 0) ∧
    decodeTableWord 8 0x04 = some (.reservedOp 0 0) ∧ decodeTableWord 8 0x30 = some (.frameReset (.full 3 [])) ∧
    decodeTableWord 8 0x81 = some (.frameBillEvent (.full 3 [0])) ∧
    decodeTableWord 48 0x82C200060302 = some (.frameAck (.full 3 [])) := by decide +kernel
theorem test_step_runs_table_word_init :
    field (fun t => (t.seq, t.status.toByte)) (step (State.reset.withFetchWord 8 0x00)) = some (.opening, 0x01) := by
  decide +kernel
theorem test_step_runs_table_word_frame :
    field (fun t => (t.seq, t.codec.valid)) (step (State.reset.withFetchWord 8 0x30)) = some (.waitRetry, true) := by
  decide +kernel

/-! ### Witnesses: for every obligation with hypotheses, states and operands that meet them -/

/-- A step that answers a next state with property `p`. -/
theorem exists_next {s : State} {p : State → Bool} (h : field p (step s) = some true) :
    ∃ t, step s = .next t ∧ p t = true := by
  cases hs : step s <;> simp_all [field, nextOf]

/-- The three invariants of the control part, as one check. -/
theorem invariants_of {s : State}
    (hc : (s.status.busy = true ↔ s.seq ≠ .idle) ∧ (s.status.busy = true → s.status.done = false) ∧ s.pairOk ∧
      (s.seq = .collect → s.rlen.val < 16) ∧ (s.seq = .drain → s.rlen.val = 16))
    (hn : (s.opr ≠ .poll → s.att ≤ s.par.maxRetry) ∧ (s.opr ≠ .poll → s.seq = .txCmd → s.att < s.par.maxRetry) ∧
      (s.seq = .waitInitRetry → s.att = s.par.maxRetry) ∧ (s.opr = .init → s.iatt ≤ s.par.initAttempts))
    (hm : (s.opr = .init → s.seq ≠ .idle → s.seq ≠ .opening → 1 ≤ s.iatt) ∧ s.t0 < 2 ^ s.par.tw ∧
      (s.seq = .opening → s.att = 0 ∧ s.iatt = 0) ∧
      (s.opr = .poll → s.seq ≠ .idle → s.att = if s.seq = .txCmd then 0 else 1))
    (he : (s.seq = .waitResetSettle ∨ s.seq = .waitInitSettle →
        Machine.validate s.response = true ∧ byteAt s.response 3 = Config.cmdAck) ∧
      (s.seq = .txAck → s.opr = .start → Machine.validate s.response = true ∧ byteAt s.response 3 = Config.cmdAck) ∧
      (s.seq = .txAck → s.opr = .poll →
        Machine.validate s.response = true ∧ byteAt s.response 3 = Config.cmdBill ∧ byteAt s.response 4 ≠ 0)) :
    s.ControlOk ∧ s.CountersOk ∧ s.EvidenceOk :=
  ⟨⟨hc.1, hc.2.1, hc.2.2.1, hc.2.2.2.1, hc.2.2.2.2⟩,
    ⟨hn.1, hn.2.1, hn.2.2.1, hn.2.2.2, hm.1, hm.2.1, hm.2.2.1, hm.2.2.2⟩, ⟨he.1, he.2.1, he.2.2⟩⟩

/-- `s` with the block to act next. -/
def go (s : State) : State := { s with sched := [.block] }

/-- `s` with its command frames already in TXLOG. -/
def sent (s : State) : State := { s with txlog := s.commandsSent }

theorem witness_EncodeThenDecode :
    (Instr.reset 31).wf = true ∧ (Instr.reset 31).channel = some .hostPort ∧
    (Instr.frameBillEvent (.full 0 (List.replicate 10 0xFF))).wf = true ∧
    (Instr.frameBillEvent (.full 0 (List.replicate 10 0xFF))).channel = some .wire ∧
    (Instr.frameUnexpected 0x7D (.bare 3)).wf = true ∧ (Instr.frameUnexpected 0x7D (.bare 3)).channel = some .wire := by
  decide +kernel

theorem witness_DecodeThenEncode :
    decode .wire ackBytes = .ok (.frameAck (.full 3 [])) ∧ decode .hostPort [0xFF] = .ok (.reservedOp 31 3) := by decide +kernel

theorem witness_DecoderAcceptsWhatValidateAccepts :
    longBytes.length ≤ 16 ∧ Machine.validate longBytes = true ∧ ([] : List Byte).length ≤ 16 ∧
    Machine.validate [] = false := by decide +kernel

theorem witness_CrcIsLinear : ([0x02, 0x03] : List Byte).length = ([0xFF, 0x00] : List Byte).length := by decide

theorem witness_SingleBitErrorIsRejected :
    Machine.validate longBytes = true ∧ 15 < longBytes.length ∧ (7 : Nat) < 8 ∧ Machine.validate ackBytes = true ∧
    0 < ackBytes.length := by decide +kernel

theorem witness_ValidateChecksNoAddrCmdOrData : (List.replicate 10 (0xFF : Byte)).length ≤ 10 := by decide

theorem witness_BillTypeReadsByteFour :
    Machine.validate (holding idle billBytes).response = true ∧ Machine.validate (holding idle ackBytes).response = true ∧
    Machine.validate idle.response = false := by decide +kernel

theorem witness_HostRequestRules :
    busy.status.busy = true ∧ idle.status.busy = false ∧ idle.par.maxRetry ≠ 0 ∧ State.reset.status.busy = false ∧
    ({ idle with par := { idle.par with maxRetry := 0 } } : State).status.busy = false := by decide

theorem witness_HostRequestFrame :
    Instr.poll 31 ∈ [Instr.init 31, .reset 31, .start 31, .poll 31, .reservedOp 31 3] ∧ idle.par.maxRetry ≠ 0 := by decide

theorem witness_CommandFrameIsSent :
    ∀ o ∈ [HostOp.init, .reset, .start, .poll], ∀ b ∈ [true, false],
      ({ at_ .txCmd o [] with txReady := b } : State).seq = .txCmd ∧
      ({ at_ .txCmd o [] with txReady := b } : State).opr = o ∧
      ({ at_ .txCmd o [] with txReady := b } : State).txReady = b := by decide

theorem witness_AckFrameIsSent :
    ∀ o ∈ [HostOp.start, .poll], ∀ b ∈ [true, false],
      ({ at_ .txAck o [] with txReady := b } : State).seq = .txAck ∧
      (({ at_ .txAck o [] with txReady := b } : State).opr = .start ∨
        ({ at_ .txAck o [] with txReady := b } : State).opr = .poll) ∧
      ({ at_ .txAck o [] with txReady := b } : State).txReady = b := by decide

theorem witness_eval_frames :
    ∀ i ∈ [Instr.frameReset (.full 3 []), .framePoll (.full 3 []), .frameStart (.full 3 []), .frameAck (.full 3 []),
      .frameBillEvent (.full 3 (List.replicate 10 0)), .frameUnexpected 0xFF (.full 3 []), .frameUnexpected 0x7D (.bare 3)],
      i.wf = true := by decide +kernel

theorem witness_ResetAcceptsOnlyAck :
    ∀ o ∈ [HostOp.init, .reset], (at_ .eval o []).seq = .eval ∧
      ((at_ .eval o []).opr = .init ∨ (at_ .eval o []).opr = .reset) ∧
      (Instr.frameAck (.full 3 [])).wf = true ∧ (Instr.frameUnexpected 0xFF (.full 3 [])).wf = true := by decide +kernel

theorem witness_StartAcceptsOnlyAck :
    (at_ .eval .start []).seq = .eval ∧ (at_ .eval .start []).opr = .start ∧
    (Instr.frameAck (.full 3 [])).wf = true ∧ (Instr.frameUnexpected 0xFF (.full 3 [])).wf = true := by decide +kernel

theorem witness_PollReportsNonzeroBillOnly :
    (at_ .eval .poll []).seq = .eval ∧ (at_ .eval .poll []).opr = .poll ∧
    (Instr.frameBillEvent (.full 3 [3])).wf = true ∧ byteAt (encode (.frameBillEvent (.full 3 [3]))) 4 ≠ 0 ∧
    (Instr.frameBillEvent (.full 3 [0])).wf = true ∧ byteAt (encode (.frameBillEvent (.full 3 [0]))) 4 = 0 ∧
    (Instr.frameAck (.full 3 [])).wf = true := by decide +kernel

theorem witness_FailedAttemptRules :
    (at_ .eval .start []).opr ≠ .poll ∧ ({ at_ .eval .init [] with att := 3, iatt := 3 } : State).opr ≠ .poll ∧
    ({ at_ .eval .init [] with att := 3, iatt := 2 } : State).opr ≠ .poll := by decide

theorem witness_WireCommandFrame :
    Instr.frameAck (.full 3 []) ∈ [Instr.frameReset (.full 3 []), .framePoll (.full 3 []), .frameStart (.full 3 []),
      .frameAck (.full 3 []), .frameBillEvent (.full 3 []), .frameUnexpected 0xFF (.full 3 [])] ∧
    idle.seq ≠ .txCmd ∧ idle.seq ≠ .eval ∧ idle.seq ≠ .txAck := by decide

theorem witness_StepRunsDecodedInstruction_host :
    (at_ .idle .init [.host (.write 0 0xF9)]).nextAct = (.host (.write 0 0xF9), idle) ∧ idle.rst = false ∧
    decode .hostPort [0xF9] = .ok (.reset 31) := by decide +kernel

theorem witness_StepRunsDecodedInstruction_block :
    (go (holding (at_ .eval .poll []) billBytes)).nextAct = (.block, holding (at_ .eval .poll []) billBytes) ∧
    decode .wire (holding (at_ .eval .poll []) billBytes).response = .ok (.frameBillEvent (.full 3 [3])) ∧
    (at_ .txCmd .start [.block]).nextAct = (.block, at_ .txCmd .start []) ∧
    decode .wire (frameFor .start) = .ok (.frameStart (.full 3 [0, 0, 0xFC, 0, 0, 0])) ∧
    (at_ .txAck .start [.block]).nextAct = (.block, at_ .txAck .start []) ∧
    decode .wire ackFrame = .ok (.frameAck (.full 3 [])) := by decide +kernel

/-- Every cause of R181 occurs, and so does success. -/
theorem witness_AttemptFailsExactlyOnACause :
    (go (holding (at_ .eval .start []) ackBytes)).nextAct = (.block, holding (at_ .eval .start []) ackBytes) ∧
    (holding (at_ .eval .start []) ackBytes).rst = false ∧ (holding (at_ .eval .start []) ackBytes).opr ≠ .poll ∧
    attemptCause (holding (at_ .eval .start []) ackBytes).response = none ∧
    attemptCause (at_ .eval .reset []).response = some .silence ∧
    attemptCause (holding (at_ .eval .reset []) [0x02, 0x03, 0x04, 0x00]).response = some .short ∧
    attemptCause (holding (at_ .eval .reset []) [0x03, 0x03, 0x06, 0x00, 0xC2, 0x82]).response = some .sync ∧
    attemptCause (holding (at_ .eval .reset []) [0x02, 0x03, 0x07, 0x00, 0xC2, 0x82]).response = some .len ∧
    attemptCause (holding (at_ .eval .reset []) [0x02, 0x03, 0x06, 0x00, 0xC3, 0x82]).response = some .crc ∧
    attemptCause (holding (at_ .eval .reset []) billBytes).response = some .cmd := by decide +kernel

theorem witness_PollEvalStepRule :
    (at_ .eval .poll [.block]).nextAct = (.block, at_ .eval .poll []) ∧ (at_ .eval .poll []).rst = false ∧
    (at_ .eval .poll []).seq = .eval ∧ (at_ .eval .poll []).opr = .poll ∧
    Machine.validate (at_ .eval .poll []).response = false ∧
    (go (holding (at_ .eval .poll []) billBytes)).nextAct = (.block, holding (at_ .eval .poll []) billBytes) ∧
    (holding (at_ .eval .poll []) billBytes).rb.read 4 = 0x03 ∧
    (holding (at_ .eval .poll []) bill0Bytes).rb.read 4 = 0x00 := by decide +kernel

theorem witness_OpenStepRule :
    (at_ .opening .init [.block]).nextAct = (.block, at_ .opening .init []) ∧ (at_ .opening .init []).rst = false ∧
    (at_ .opening .init []).seq = .opening ∧ (at_ .opening .init []).opr = .init := by decide +kernel

/-- The limits of R175: INIT_ATTEMPTS 0 finishes, MAX_RETRY 0 waits for the next empty run (V-SEQ-14), and the last empty run
finishes, or waits once more when DELAY_AFTER_FINAL is set. -/
theorem witness_OpenStepRule_limits :
    (∀ p ∈ [limits 3 0 false, limits 0 3 false, limits 0 1 false, limits 0 1 true],
      ({ at_ .opening .init [.block] with par := p } : State).nextAct = (.block, { at_ .opening .init [] with par := p }) ∧
      ({ at_ .opening .init [] with par := p } : State).rst = false) ∧
    field (fun t => (t.seq, t.result, t.iatt, t.openlog)) (step { at_ .opening .init [.block] with par := limits 3 0 false }) =
      some (.idle, 0x00, 0, [9600]) ∧
    field (fun t => (t.seq, t.iatt)) (step { at_ .opening .init [.block] with par := limits 0 3 false }) =
      some (.waitInitRetry, 1) ∧
    field (fun t => (t.seq, t.result)) (step { at_ .opening .init [.block] with par := limits 0 1 false }) =
      some (.idle, 0x00) ∧
    field (fun t => t.seq) (step { at_ .opening .init [.block] with par := limits 0 1 true }) = some .waitInitRetry := by
  decide +kernel

/-- The deadline met exactly, missed by one with an empty queue, and missed by one with a byte for the last cell. -/
theorem witness_CollectStepRule :
    (∀ n ∈ [99, 100], (go { busy with now := n, rlen := 15, rxq := [0x55] }).nextAct =
      (.block, { busy with now := n, rlen := 15, rxq := [0x55] })) ∧
    ({ busy with now := 100 } : State).timeoutFor ≤ ({ busy with now := 100 } : State).elapsed ∧
    ({ busy with now := 99 } : State).elapsed < ({ busy with now := 99 } : State).timeoutFor ∧
    busy.rxq = [] ∧ (15 : Fin 17).val < 16 ∧ (0 : Fin 17).val < 16 ∧ busy.rb.wf = true := by decide +kernel

/-- Each operation one millisecond before the timeout R121 gives it, and at it. -/
theorem witness_CollectStepRule_timeouts :
    ∀ p ∈ [(HostOp.init, 500), (.reset, 500), (.start, 100), (.poll, 100)],
      ({ at_ .collect p.1 [.block] with now := p.2 } : State).nextAct = (.block, { at_ .collect p.1 [] with now := p.2 }) ∧
      (at_ .collect p.1 []).opr = p.1 ∧
      field (fun t => t.seq) (step { at_ .collect p.1 [.block] with now := p.2 - 1 }) = some .collect ∧
      field (fun t => t.seq) (step { at_ .collect p.1 [.block] with now := p.2 }) = some .eval := by decide +kernel

theorem witness_DrainStepRule :
    (at_ .drain .poll [.block]).nextAct = (.block, at_ .drain .poll []) ∧ (at_ .drain .poll []).rst = false ∧
    (at_ .drain .poll []).rxq = [] ∧ ({ at_ .drain .poll [] with rxq := [0xAA, 0xBB] } : State).rxq = 0xAA :: [0xBB] := by
  decide +kernel

theorem witness_WaitStepRules :
    ∀ p ∈ [(Machine.Seq.waitRetry, HostOp.reset), (.waitResetSettle, .reset), (.waitResetSettle, .init), (.waitInitRetry, .init),
      (.waitInitSettle, .init)],
      (at_ p.1 p.2 [.block]).nextAct = (.block, at_ p.1 p.2 []) ∧ (at_ p.1 p.2 []).rst = false ∧ (at_ p.1 p.2 []).pairOk ∧
      (at_ p.1 p.2 []).seq = p.1 := by decide +kernel

/-- Each wait one millisecond early, and at exactly its duration. -/
theorem witness_WaitStepRules_exact :
    ∀ p ∈ [(Machine.Seq.waitRetry, HostOp.reset, 100, Machine.Seq.txCmd), (.waitResetSettle, .reset, 500, .idle),
      (.waitResetSettle, .init, 500, .waitInitSettle), (.waitInitRetry, .init, 100, .txCmd),
      (.waitInitSettle, .init, 200, .idle)],
      ({ at_ p.1 p.2.1 [.block] with now := p.2.2.1 } : State).nextAct =
        (.block, { at_ p.1 p.2.1 [] with now := p.2.2.1 }) ∧
      ({ at_ p.1 p.2.1 [] with now := p.2.2.1 } : State).elapsed = p.2.2.1 ∧
      field (fun t => t.seq) (step { at_ p.1 p.2.1 [.block] with now := p.2.2.1 - 1 }) = some p.1 ∧
      field (fun t => t.seq) (step { at_ p.1 p.2.1 [.block] with now := p.2.2.1 }) = some p.2.2.2 := by decide +kernel

/-- The limits of the exits: INIT's next empty run, its last, and the ends reached only when DELAY_AFTER_FINAL is set. -/
theorem witness_WaitStepRules_limits :
    field (fun t => (t.seq, t.iatt))
      (step { at_ .waitInitRetry .init [.block] with now := 100, iatt := 1, par := limits 0 3 false }) =
      some (.waitInitRetry, 2) ∧
    field (fun t => (t.seq, t.iatt, t.result))
      (step { at_ .waitInitRetry .init [.block] with now := 100, iatt := 2, par := limits 0 3 false }) =
      some (.idle, 3, 0x00) ∧
    field (fun t => (t.seq, t.result))
      (step { at_ .waitInitRetry .init [.block] with now := 100, iatt := 3, att := 3, par := limits 3 3 true }) =
      some (.idle, 0x00) ∧
    field (fun t => (t.seq, t.result))
      (step { at_ .waitRetry .start [.block] with now := 100, att := 3, par := limits 3 3 true }) = some (.idle, 0x00) ∧
    field (fun t => t.seq)
      (step { at_ .waitRetry .init [.block] with now := 100, att := 3, iatt := 3, par := limits 3 3 true }) =
      some .waitInitRetry := by decide +kernel

theorem witness_HostRegisterMap :
    idle.rst = false ∧ (∀ off ∈ [(0 : BitVec 2), 1, 2, 3],
      (at_ .idle .init [.host (.read off)]).nextAct = (.host (.read off), idle)) ∧
    (∀ off ∈ [(1 : BitVec 2), 2, 3],
      (at_ .idle .init [.host (.write off 0xFF)]).nextAct = (.host (.write off 0xFF), idle) ∧ off ≠ 0) := by decide +kernel

/-- RST asserted, kept asserted, released, and driven released while it is released. -/
theorem witness_ResetInputRule :
    (∀ p ∈ [(true, false), (true, true), (false, true), (false, false)],
      ({ at_ .collect .poll [.rst p.1] with rst := p.2 } : State).nextAct = (.rst p.1, { busy with rst := p.2 })) ∧
    (∀ p ∈ [(true, false), (true, true), (false, true)], p.1 = true ∨ ({ busy with rst := p.2 } : State).rst = true) ∧
    busy.rst = false := by decide +kernel

/-- T0 taken just before the 32-bit clock wraps. -/
theorem witness_ElapsedIsTrueTime :
    ({ idle with t0 := 2 ^ 32 - 1, now := 2 ^ 32 + 1 } : State).t0 = (2 ^ 32 - 1) % 2 ^ idle.par.tw ∧
    2 ^ 32 - 1 ≤ ({ idle with now := 2 ^ 32 + 1 } : State).now ∧ 2 ^ 32 + 1 - (2 ^ 32 - 1) < 2 ^ idle.par.tw := by
  decide +kernel

/-- A COLLECT step that stores a byte. -/
def storing : State := { at_ .collect .poll [.block] with att := 1, rlen := 15, rxq := [0x55, 0xAA] }

theorem storing_ok : storing.ControlOk ∧ storing.CountersOk ∧ storing.EvidenceOk := by
  apply invariants_of <;> decide +kernel

/-- RXQ, RB and the schedule change in this step. -/
theorem witness_storing :
    ∃ t, step storing = .next t ∧ t.rxq ≠ storing.rxq ∧ t.rb ≠ storing.rb ∧ storing.rst = false ∧
      storing.nextAct.1 ≠ .rst true := by
  obtain ⟨t, h, hp⟩ := exists_next (s := storing) (p := fun t => t.rxq == [0xAA] && t.rb == [(15, 0x55)]) (by decide +kernel)
  simp only [Bool.and_eq_true, beq_iff_eq] at hp
  refine ⟨t, h, ?_, ?_, rfl, by decide⟩
  · rw [hp.1]; decide
  · rw [hp.2]; decide

theorem witness_StepKeepsMemoryCanonical : ∃ t, storing.memoryOk ∧ step storing = .next t :=
  let ⟨t, h, _⟩ := witness_storing; ⟨t, by decide, h⟩

theorem witness_StepKeepsControlLegal : ∃ t, storing.ControlOk ∧ step storing = .next t :=
  let ⟨t, h, _⟩ := witness_storing; ⟨t, storing_ok.1, h⟩

theorem witness_StepKeepsCountersInLimits : ∃ t, storing.ControlOk ∧ storing.CountersOk ∧ step storing = .next t :=
  let ⟨t, h, _⟩ := witness_storing; ⟨t, storing_ok.1, storing_ok.2.1, h⟩

theorem witness_StepNeverStops : storing.ControlOk := storing_ok.1

theorem witness_LogsGrowAndClockIsMonotonic : ∃ t, step storing = .next t :=
  let ⟨t, h, _⟩ := witness_storing; ⟨t, h⟩

theorem witness_ReceiveQueueIsNeverFlushed : ∃ t, step storing = .next t ∧ t.rxq ≠ storing.rxq :=
  let ⟨t, h, hq, _⟩ := witness_storing; ⟨t, h, hq⟩

theorem witness_OnlyCollectWritesTheBuffer :
    ∃ t, storing.rst = false ∧ storing.nextAct.1 ≠ .rst true ∧ step storing = .next t ∧ t.rb ≠ storing.rb :=
  let ⟨t, h, _, hb, hr, hl⟩ := witness_storing; ⟨t, hr, hl, h, hb⟩

/-- Evidence of success is asked for: the bill event waits for its ACK. -/
def acking : State := sent { holding (at_ .txAck .poll [.block]) billBytes with att := 1 }

theorem acking_ok : acking.ControlOk ∧ acking.CountersOk ∧ acking.EvidenceOk := by
  apply invariants_of <;> decide +kernel

theorem witness_StepKeepsEvidenceOfSuccess :
    ∃ t, acking.EvidenceOk ∧ step acking = .next t ∧ acking.seq ≠ .idle ∧ t.seq = .idle ∧ t.result ≠ 0x00 := by
  obtain ⟨t, h, hp⟩ := exists_next (s := acking) (p := fun t => t.seq == .idle && t.result == 0x03) (by decide +kernel)
  simp only [Bool.and_eq_true, beq_iff_eq] at hp
  exact ⟨t, acking_ok.2.2, h, by decide, hp.1, by rw [hp.2]; decide⟩

theorem witness_OnlyFixedFramesAreSent : ∃ t, step acking = .next t ∧ t.txlog ≠ acking.txlog := by
  obtain ⟨t, h, hp⟩ := exists_next (s := acking) (p := fun t => t.txlog == pollFrame ++ ackFrame) (by decide +kernel)
  refine ⟨t, h, ?_⟩
  rw [beq_iff_eq.1 hp]; decide

theorem witness_ResultChangesOnlyWithDone :
    ∃ t, acking.rst = false ∧ acking.nextAct.1 ≠ .rst true ∧ step acking = .next t ∧ t.result ≠ acking.result := by
  obtain ⟨t, h, hp⟩ := exists_next (s := acking) (p := fun t => t.result == 0x03) (by decide +kernel)
  refine ⟨t, rfl, by decide, h, ?_⟩
  rw [beq_iff_eq.1 hp]; decide

theorem witness_StepKeepsBlockInReset :
    ∃ s t : State, s.rst = true ∧ s.heldInReset ∧ step s = .next t := by
  obtain ⟨t, h, _⟩ := exists_next (s := { State.reset with rst := true, sched := [.host (.write 0 0x00)] })
    (p := fun t => t.seq == .idle) (by decide +kernel)
  exact ⟨_, t, rfl, fun _ => rfl, h⟩

theorem witness_FaultIsStickyAndOnlyHostSetsIt :
    (∃ s t : State, step s = .next t ∧ s.fault = none ∧ t.fault ≠ none) ∧
    (∃ s t : State, step s = .next t ∧ s.fault = some .badOp) := by
  constructor
  · obtain ⟨t, h, hp⟩ := exists_next (s := at_ .idle .init [.host (.write 0 0x04)])
      (p := fun t => t.fault == some .badOp) (by decide +kernel)
    exact ⟨_, t, h, rfl, by rw [beq_iff_eq.1 hp]; simp⟩
  · obtain ⟨t, h, _⟩ := exists_next (s := { at_ .collect .poll [.host (.write 0 0x00)] with fault := some .badOp })
      (p := fun t => t.fault == some .badOp) (by decide +kernel)
    exact ⟨_, t, h, rfl⟩

/-- The second run of INIT sends its first frame. -/
def sending : State := sent { at_ .txCmd .init [.block] with iatt := 2 }

theorem witness_OperationSendsCountedFrames :
    ∃ t, sending.ControlOk ∧ sending.CountersOk ∧ sending.seq ≠ .idle ∧ sending.txlog = [] ++ sending.commandsSent ∧
      step sending = .next t ∧ t.seq ≠ .idle := by
  have hi : sending.ControlOk ∧ sending.CountersOk ∧ sending.EvidenceOk := by apply invariants_of <;> decide +kernel
  obtain ⟨t, h, hp⟩ := exists_next (s := sending) (p := fun t => t.seq == .collect) (by decide +kernel)
  exact ⟨t, hi.1, hi.2.1, by decide, by decide +kernel, h, by rw [beq_iff_eq.1 hp]; decide⟩

/-- The last step of each operation, with each result. -/
def finishing : List State :=
  [acking, sent { at_ .eval .poll [.block] with att := 1 },
   sent { holding (at_ .txAck .start [.block]) ackBytes with att := 3 }, sent { at_ .eval .start [.block] with att := 3 },
   sent { holding (at_ .waitResetSettle .reset [.block]) ackBytes with att := 1, now := 500 },
   sent { at_ .eval .reset [.block] with att := 3 },
   sent { holding (at_ .waitInitSettle .init [.block]) ackBytes with att := 1, iatt := 2, now := 200 },
   sent { at_ .eval .init [.block] with att := 3, iatt := 3 }]

theorem witness_FinishedOperationSendCounts :
    ∀ s ∈ finishing, ∃ t, s.ControlOk ∧ s.CountersOk ∧ s.EvidenceOk ∧ s.seq ≠ .idle ∧ s.txlog = [] ++ s.commandsSent ∧
      step s = .next t ∧ t.seq = .idle ∧ t.status.done = true := by
  intro s hs
  have key : s.seq ≠ .idle ∧ s.txlog = [] ++ s.commandsSent ∧
      field (fun t => t.seq == .idle && t.status.done) (step s) = some true := by
    revert s; decide +kernel
  obtain ⟨t, h, hp⟩ := exists_next key.2.2
  simp only [Bool.and_eq_true, beq_iff_eq] at hp
  have hi : s.ControlOk ∧ s.CountersOk ∧ s.EvidenceOk := by
    simp only [finishing, List.mem_cons, List.not_mem_nil, or_false] at hs
    rcases hs with rfl | rfl | rfl | rfl | rfl | rfl | rfl | rfl <;>
      (apply invariants_of <;> decide +kernel)
  exact ⟨t, hi.1, hi.2.1, hi.2.2, key.1, key.2.1, h, hp.1, hp.2⟩

theorem witness_SilentResetSendsMaxRetryFrames :
    let s := at_ .txCmd .reset (silentAttempt 500 ++ silentRetries 500 100 2)
    s.rst = false ∧ s.seq = .txCmd ∧ s.opr = .reset ∧ s.att = 0 ∧ s.rxq = [] ∧ s.txReady = true ∧ s.par.maxRetry = 2 + 1 ∧
    s.par.delayAfterFinal = false ∧ s.par.tResetResp < 2 ^ s.par.tw ∧ s.par.tRetry < 2 ^ s.par.tw ∧
    s.sched = silentAttempt s.par.tResetResp ++ silentRetries s.par.tResetResp s.par.tRetry 2 := by decide +kernel

/-- The ACK arrives at once, and one millisecond below the timeout. -/
theorem witness_AnsweredResetSucceedsAtOnce :
    ∀ d ∈ [0, 499],
      let s := at_ .txCmd .reset [.block, .clock d, .peripheral [0x02, 0x03, 0x06, 0x00, 0xC2, 0x82], .block, .block, .block,
        .block, .block, .block, .clock (500 - d), .block, .block, .clock 500, .block]
      s.memoryOk ∧ s.rst = false ∧ s.seq = .txCmd ∧ s.opr = .reset ∧ s.rxq = [] ∧ s.txReady = true ∧ d < s.par.tResetResp ∧
      s.par.tResetResp < 2 ^ s.par.tw ∧ s.par.tResetSettle < 2 ^ s.par.tw ∧
      s.sched = [.block, .clock d, .peripheral [0x02, 0x03, 0x06, 0x00, 0xC2, 0x82], .block, .block, .block, .block, .block,
        .block, .clock (s.par.tResetResp - d), .block, .block, .clock s.par.tResetSettle, .block] := by decide +kernel

/-- The OPEN step, and an RST act that clears OPENED. -/
theorem witness_OpenedAndOpenlogChangeOnlyInOpen :
    (∃ s t : State, step s = .next t ∧ s.status.opened = false ∧ t.status.opened = true ∧ t.openlog ≠ s.openlog) ∧
    (∃ s t : State, step s = .next t ∧ s.status.opened = true ∧ t.status.opened = false) := by
  constructor
  · obtain ⟨t, h, hp⟩ := exists_next (s := { at_ .opening .init [.block] with status := ⟨true, false, false, false⟩ })
      (p := fun t => t.status.opened && t.openlog == [9600]) (by decide +kernel)
    simp only [Bool.and_eq_true, beq_iff_eq] at hp
    exact ⟨_, t, h, rfl, hp.1, by rw [hp.2]; decide⟩
  · obtain ⟨t, h, hp⟩ := exists_next (s := at_ .collect .poll [.rst true]) (p := fun t => !t.status.opened) (by decide +kernel)
    exact ⟨_, t, h, rfl, by simpa using hp⟩

/-- A block step in IDLE, and a request that leaves it. -/
theorem witness_OnlyARequestLeavesIdle :
    (at_ .idle .init [.block]).nextAct = (.block, idle) ∧ idle.rst = false ∧ idle.seq = .idle ∧
    ∃ s t : State, s.seq = .idle ∧ step s = .next t ∧ t.seq ≠ .idle := by
  refine ⟨by decide +kernel, rfl, rfl, ?_⟩
  obtain ⟨t, h, hp⟩ := exists_next (s := at_ .idle .init [.host (.write 0 0xFB)]) (p := fun t => t.seq == .txCmd)
    (by decide +kernel)
  exact ⟨_, t, rfl, h, by rw [beq_iff_eq.1 hp]; decide⟩

end Sys2Proof.Tests
end

/-! What a write to OPREQ depends on (30_encoding.md R82 to R84). -/

namespace Sys2Proof.Machine

/-- Two OPREQ bytes with the same OPREQ[2:0] do the same: it selects the row (R82, R83), and no HOSTOP row uses the reserved
bits it holds. -/
theorem exec_decodeOpreq_congr {b c : Byte} (h : b.extractLsb' 0 3 = c.extractLsb' 0 3) (s : State) :
    exec (decodeOpreq b) s = exec (decodeOpreq c) s := by
  simp only [decodeOpreq, h]
  -- One case per HOSTOP row; the two sides differ only in operands its meaning discards.
  split_ifs <;> rfl

/-- The mask 0x07 keeps OPREQ[2:0]. -/
theorem extractLsb'_and_seven (b : Byte) : (b &&& 0x07).extractLsb' 0 3 = b.extractLsb' 0 3 := by
  have mask : (0x07 : Byte).extractLsb' 0 3 = BitVec.allOnes 3 := by decide
  rw [BitVec.extractLsb'_and, mask, BitVec.and_allOnes]

/-- Settles O17: the byte and its low three bits agree in OPREQ[2:0], which is all that a write to OPREQ depends on. -/
theorem opreqHighBitsAreIgnored : Obligations.OpreqHighBitsAreIgnored := fun b s =>
  exec_decodeOpreq_congr (extractLsb'_and_seven b).symm s

end Sys2Proof.Machine

/-! The CRC over a sequence, byte by byte (40_codec.md R100 to R102), and the frames `validate` accepts (R104, R106). -/

namespace Sys2Proof.Machine

/-- The CRC runs over a sequence from left to right: the second part starts from the accumulator the first one leaves. -/
theorem crcFrom_append (acc : Word16) (d e : List Byte) : crcFrom acc (d ++ e) = crcFrom (crcFrom acc d) e := by
  induction d generalizing acc with
  | nil => rfl
  | cons b d ih => exact ih (crcByte acc b)

/-- A further byte is one more `crc_byte` (R100). -/
theorem crc16_concat (d : List Byte) (b : Byte) : crc16 (d ++ [b]) = crcByte (crc16 d) b :=
  crcFrom_append Config.crcInit d [b]

/-- Settles O12: a further byte is `crc16_concat`; the other clauses are the definitions read back. -/
theorem crcAlgorithm : Obligations.CrcAlgorithm := by
  refine ⟨?empty, crc16_concat, ?eightSteps, ?lowBit⟩
  case empty => rfl
  case eightSteps => exact fun _ _ => rfl
  case lowBit => exact fun _ => rfl

/-- A well-formed frame is valid: the decoder finds no fault in its bytes. -/
theorem validate_frameBytes {cmd : Byte} {f : Frame} (h : f.wf cmd = true) : validate (frameBytes cmd f) = true := by
  obtain ⟨noFault, -, -⟩ := decode_parts_of_frameBytes h
  exact ((wireFault_none_iff _).1 noFault).1

/-- Well-formedness of a frame with a CMD byte is that it fits RB, whatever ADDR and CMD are (R71). -/
theorem wf_full_iff (cmd addr : Byte) (data : List Byte) : (Frame.full addr data).wf cmd = true ↔ data.length ≤ 10 := by
  simp only [Frame.wf, Config.rbCap, decide_eq_true_eq]
  omega

/-- A LEN 5 frame is well-formed in the row its CRC_LO names (R72). -/
theorem wf_bare_crcLo (addr : Byte) : (Frame.bare addr).wf (loByte (crc16 [Config.sync, addr, 5])) = true :=
  beq_self_eq_true _

/-- A LEN 5 frame has no CMD byte, so the command code asked for leaves no trace in its bytes (R72). -/
theorem frameBytes_bare_congr (cmd cmd' addr : Byte) : frameBytes cmd (.bare addr) = frameBytes cmd' (.bare addr) := rfl

/-- Settles O11: a frame of at most 10 DATA bytes is well-formed under every CMD, and a bare frame has the bytes of the one in
the row its CRC_LO names; well-formed frames are valid. -/
theorem validateChecksNoAddrCmdOrData : Obligations.ValidateChecksNoAddrCmdOrData := by
  constructor
  · intro addr cmd data fits
    exact validate_frameBytes ((wf_full_iff cmd addr data).2 fits)
  · intro addr cmd
    rw [frameBytes_bare_congr cmd]
    exact validate_frameBytes (wf_bare_crcLo addr)

end Sys2Proof.Machine

/-! The exchange with the peripheral (41_exchange.md R121, R123, R124, R127): what COLLECT and DRAIN do, case by case, and what
a step does to RXQ. -/

namespace Sys2Proof.Machine

/-- The timeout of the two operations that send RESET (R121). -/
theorem timeoutFor_of_init_or_reset {u : State} (h : u.opr = .init ∨ u.opr = .reset) : u.timeoutFor = u.par.tResetResp := by
  rcases h with h | h <;> simp only [State.timeoutFor, h]

/-- The timeout of the two other operations (R121). -/
theorem timeoutFor_of_start_or_poll {u : State} (h : u.opr = .start ∨ u.opr = .poll) : u.timeoutFor = u.par.tResp := by
  rcases h with h | h <;> simp only [State.timeoutFor, h]

/-- The deadline comes before any byte that waits (R123). -/
theorem collectStep_of_elapsed {u : State} (late : u.timeoutFor ≤ u.elapsed) :
    u.collectStep = .ok { u with seq := .eval } := if_pos late

theorem collectStep_of_rxq_nil {u : State} (early : u.elapsed < u.timeoutFor) (hq : u.rxq = []) : u.collectStep = .ok u := by
  simp only [State.collectStep, if_neg early.not_ge, hq]

theorem collectStep_of_rxq_cons {u : State} {b : Byte} {q : List Byte} (early : u.elapsed < u.timeoutFor)
    (hq : u.rxq = b :: q) (room : u.rlen.val < 16) : u.collectStep = .ok (u.store b q room) := by
  simp only [State.collectStep, if_neg early.not_ge, hq, dif_pos room]

theorem drainStep_of_rxq_nil {u : State} (hq : u.rxq = []) : u.drainStep = { u with seq := .eval } := by
  simp only [State.drainStep, hq]

theorem drainStep_of_rxq_cons {u : State} {b : Byte} {q : List Byte} (hq : u.rxq = b :: q) :
    u.drainStep = { u with rxq := q } := by
  simp only [State.drainStep, hq]

/-- DRAIN takes the oldest byte, or leaves an empty RXQ as it is. -/
theorem drainStep_rxq (u : State) : u.drainStep.rxq = u.rxq ∨ ∃ b, u.rxq = b :: u.drainStep.rxq := by
  cases hq : u.rxq with
  | nil => exact .inl (by rw [drainStep_of_rxq_nil hq, hq])
  | cons b q => exact .inr ⟨b, by rw [drainStep_of_rxq_cons hq]⟩

/-- INIT's last wait ends in success (R166), so the frame of `finish` is its frame. -/
@[simp] theorem exitInitSettle_eq_finish (u : State) : u.exitInitSettle = u.finish 0x01 := rfl

section BlockStep

variable {s u : State} (act : s.nextAct = (.block, u)) (running : u.rst = false)
include act running

/-- With RST released, the block's act is the one SEQ chooses. -/
theorem step_of_block : step s = u.blockFetch.outcome := by
  simp only [step, State.fetch, act, State.actFetch, running, Bool.false_eq_true, if_false]

theorem step_of_collect (hs : u.seq = .collect) {t : State} (ht : u.collectStep = .ok t) : step s = .next t := by
  simp only [step_of_block act running, State.blockFetch, hs, ht, Fetched.outcome]

theorem step_of_drain (hs : u.seq = .drain) : step s = .next u.drainStep := by
  simp only [step_of_block act running, State.blockFetch, hs, Fetched.outcome]

end BlockStep

/-- Settles O30: the step is `collectStep`, which has one equation per case; the byte it stores is a memory write at RB[RLEN]. -/
theorem collectStepRule : Obligations.CollectStepRule := by
  intro s u act running hs
  refine ⟨timeoutFor_of_init_or_reset, timeoutFor_of_start_or_poll, ?late, ?empty, ?byte⟩
  case late => exact fun late => step_of_collect act running hs (collectStep_of_elapsed late)
  case empty => exact fun early hq => step_of_collect act running hs (collectStep_of_rxq_nil early hq)
  case byte =>
    intro b q early hq room canonical
    have stored := step_of_collect act running hs (collectStep_of_rxq_cons early hq room)
    have written : (u.rb.write u.rlen b).read u.rlen = b := Memory.read_write_same canonical
    have others : ∀ a, a ≠ u.rlen.val → (u.rb.write u.rlen b).read a = u.rb.read a :=
      fun _ ha => Memory.read_write_other ha u.rb
    exact ⟨u.store b q room, stored, written, others, rfl, rfl, rfl, rfl⟩

/-- Settles O47: of all a step can do, only the peripheral's act, a byte stored in COLLECT and a DRAIN step touch RXQ; the
other cases are the frames of the operations. -/
theorem receiveQueueIsNeverFlushed : Obligations.ReceiveQueueIsNeverFlushed := by
  intro s t h
  apply step_elim h rfl
  case peripheral =>
    intro bytes act
    exact .inr (.inl ⟨bytes, act, by simp⟩)
  case store =>
    intro b q _ _ act hs hq
    have taken : s.rxq = b :: q := by simpa using hq
    exact .inr (.inr ⟨act, .inl (by simpa using hs), b, taken⟩)
  case drain =>
    intro _ act hs
    rcases drainStep_rxq s.nextAct.2 with kept | ⟨b, taken⟩
    · exact .inl (by simpa using kept)
    · exact .inr (.inr ⟨act, .inr (by simpa using hs), b, by simpa using taken⟩)
  -- Every other next state is made by operations whose frames keep RXQ.
  all_goals
    intros
    exact .inl (by simp)

/-- Settles O31: the step is `drainStep`, with or without a byte to discard. -/
theorem drainStepRule : Obligations.DrainStepRule := by
  intro s u act running hs
  have drained := step_of_drain act running hs
  constructor
  · exact fun hq => drained.trans (congrArg _ (drainStep_of_rxq_nil hq))
  · exact fun b q hq => drained.trans (congrArg _ (drainStep_of_rxq_cons hq))

end Sys2Proof.Machine

/-! The host operations (42_operations.md R150 to R153): the op codes of a write to OPREQ, and what a request does while the
block is busy and while it is free. -/

namespace Sys2Proof.Machine

/-- OPREQ taken apart into its reserved bits and its op code (R82 to R84). -/
theorem decodeOpreq_append (r : BitVec 5) (op : BitVec 3) :
    decodeOpreq (r ++ op) =
      if op = 0#3 then .init r
      else if op = 1#3 then .reset r
      else if op = 2#3 then .start r
      else if op = 3#3 then .poll r
      else .reservedOp r (op.extractLsb' 0 2) := by
  have opBits : BitVec.extractLsb' 0 3 (r ++ op) = op := BitVec.extractLsb'_append_eq_right
  have rsvBits : BitVec.extractLsb' 3 5 (r ++ op) = r := BitVec.extractLsb'_append_eq_left
  have lowBits : BitVec.extractLsb' 0 2 (r ++ op) = op.extractLsb' 0 2 := BitVec.extractLsb'_append_eq_of_add_le (by decide)
  simp only [decodeOpreq, opBits, rsvBits, lowBits]

/-- OPREQ[2] set is a reserved code, whatever OPREQ[1:0] holds (R83). -/
theorem decodeOpreq_append_reserved (r : BitVec 5) (c : BitVec 2) :
    decodeOpreq (r ++ (1#1 ++ c)) = .reservedOp r c := by
  have noOperation : ∀ c : BitVec 2, 1#1 ++ c ≠ 0#3 ∧ 1#1 ++ c ≠ 1#3 ∧ 1#1 ++ c ≠ 2#3 ∧ 1#1 ++ c ≠ 3#3 := by decide
  obtain ⟨notInit, notReset, notStart, notPoll⟩ := noOperation c
  have code : BitVec.extractLsb' 0 2 (1#1 ++ c) = c := BitVec.extractLsb'_append_eq_right
  rw [decodeOpreq_append, if_neg notInit, if_neg notReset, if_neg notStart, if_neg notPoll, code]

/-- BUSY is checked first: the request is ignored and HOST_BUSY recorded (R151). -/
theorem request_of_busy {s : State} (busy : s.status.busy = true) (op : HostOp) :
    s.request op = s.raiseFault .hostBusy := if_pos busy

theorem requestReserved_of_busy {s : State} (busy : s.status.busy = true) :
    s.requestReserved = s.raiseFault .hostBusy := if_pos busy

section FreeBlock

variable {s : State} (free : s.status.busy = false)
include free

theorem requestReserved_of_free :
    s.requestReserved = { s.raiseFault .badOp with status := s.status.sawBadOp } := by
  simp only [State.requestReserved, free, Bool.false_eq_true, if_false]

/-- INIT needs no opened transport (R153). -/
theorem request_init_of_free : s.request .init = s.begin .init := by
  simp only [State.request, free, Bool.false_eq_true, if_false, ne_eq, not_true_eq_false, false_and]

/-- Every other operation runs too, and records NOT_OPENED when nothing has opened the transport (R153). -/
theorem request_of_free {op : HostOp} (other : op ≠ .init) :
    s.request op =
      State.begin { s with fault := if s.status.opened then s.fault else some (s.fault.getD .notOpened) } op := by
  cases opened : s.status.opened <;>
    simp [State.request, free, other, opened, State.raiseFault]

end FreeBlock

/-- RESET and START start, or finish with 0x00 when they may make no attempt (R150, R156, R157). -/
theorem begin_of_reset_or_start (s : State) {op : HostOp} (h : op = .reset ∨ op = .start) :
    s.begin op =
      { s with
        opr := op, att := 0, iatt := 0,
        seq := if s.par.maxRetry = 0 then .idle else .txCmd,
        status := if s.par.maxRetry = 0 then s.status.accepted.finished else s.status.accepted,
        result := if s.par.maxRetry = 0 then 0x00 else s.result } := by
  rcases begin_cases s op with ⟨isInit, -⟩ | ⟨-, pollOrRetries, begun⟩ | ⟨-, noRetries, begun⟩
  · simp [isInit] at h
  · have retries : s.par.maxRetry ≠ 0 := by
      rcases pollOrRetries with isPoll | retries
      · simp [isPoll] at h
      · exact retries
    simp only [begun, if_neg retries]
  · simp only [begun, if_pos noRetries, State.finish]

/-- Settles O16: the codes by `decodeOpreq_append`; while busy every row is `raiseFault`; otherwise a reserved code is
`requestReserved_of_free` and each operation is `begin` on a state that may have recorded NOT_OPENED. -/
theorem hostRequestRules : Obligations.HostRequestRules := by
  intro s r c
  refine ⟨⟨?init, ?reset, ?start, ?poll, decodeOpreq_append_reserved r c⟩, ?busy, ?free⟩
  case init => exact decodeOpreq_append r 0
  case reset => exact decodeOpreq_append r 1
  case start => exact decodeOpreq_append r 2
  case poll => exact decodeOpreq_append r 3
  case busy =>
    intro busy i hi
    simp only [List.mem_cons, List.not_mem_nil, or_false] at hi
    obtain rfl | rfl | rfl | rfl | rfl := hi
    · exact congrArg _ (request_of_busy busy .init)
    · exact congrArg _ (request_of_busy busy .reset)
    · exact congrArg _ (request_of_busy busy .start)
    · exact congrArg _ (request_of_busy busy .poll)
    · exact congrArg _ (requestReserved_of_busy busy)
  case free =>
    intro free
    refine ⟨?reservedOp, ?init, ?poll, ?resetOrStart⟩
    case reservedOp => exact congrArg _ (requestReserved_of_free free)
    case init => exact congrArg _ (request_init_of_free free)
    case poll => exact congrArg _ (request_of_free free (by decide))
    case resetOrStart =>
      intro p hp
      simp only [List.mem_cons, List.not_mem_nil, or_false] at hp
      obtain rfl | rfl := hp
      · exact congrArg _ ((request_of_free free (by decide)).trans (begin_of_reset_or_start _ (.inl rfl)))
      · exact congrArg _ ((request_of_free free (by decide)).trans (begin_of_reset_or_start _ (.inr rfl)))

end Sys2Proof.Machine

/-! EVAL (41_exchange.md R125) and its branch for POLL (42_operations.md R161). -/

namespace Sys2Proof.Machine

/-- A byte of the response is a cell of RB (R22). -/
theorem byteAt_response {s : State} {i : Nat} (held : i < s.rlen.val) : byteAt s.response i = s.rb.read i := by
  have cell := Memory.getD_bytes s.rb 0 0 s.rlen i held
  rwa [Nat.zero_add] at cell

/-- A validated response has at least five bytes, so EVAL reads RB[3] and RB[4] of it. -/
theorem responseSeen_of_valid {s : State} (valid : validate s.response = true) :
    s.responseSeen = some ⟨s.rb.read 3, s.rb.read 4⟩ := by
  obtain ⟨fiveBytes, -, -, -⟩ := (validate_iff s.response).1 valid
  rw [length_response] at fiveBytes
  rw [State.responseSeen, if_pos valid, byteAt_response (by omega), byteAt_response (by omega)]

theorem responseSeen_of_invalid {s : State} (invalid : validate s.response = false) : s.responseSeen = none := by
  simp only [State.responseSeen, invalid, Bool.false_eq_true, if_false]

/-- The block's step in EVAL validates the response, then takes the branch of OPR (R125). -/
theorem step_of_eval {s u : State} (act : s.nextAct = (.block, u)) (running : u.rst = false) (hs : u.seq = .eval) :
    step s = .next (u.runValidate.evalBranch u.responseSeen) := by
  simp only [step_of_block act running, State.blockFetch, hs, evalFetch_outcome hs]

theorem evalBranch_of_poll {s : State} (hp : s.opr = .poll) (rx : Option Received) :
    s.evalBranch rx = s.evalPoll rx := by
  simp only [State.evalBranch, hp]

/-- An invalid response is no event. -/
theorem evalPoll_none (s : State) : s.evalPoll none = s.finish 0x00 := rfl

/-- A bill event whose byte 4 is not 0 goes to TX_ACK. -/
theorem evalPoll_of_bill {s : State} {r : Received} (bill : r.cmd = Config.cmdBill ∧ r.byte4 ≠ 0x00) :
    s.evalPoll (some r) = { s.showBill (some r.byte4) with seq := .txAck } := by
  simp only [State.evalPoll, if_pos bill, if_pos bill.1]

/-- Any other valid response is no event. -/
theorem evalPoll_of_noBill {s : State} {r : Received} (noBill : ¬ (r.cmd = Config.cmdBill ∧ r.byte4 ≠ 0x00)) :
    s.evalPoll (some r) = (s.showBill (if r.cmd = Config.cmdBill then some r.byte4 else none)).finish 0x00 := by
  simp only [State.evalPoll, if_neg noBill]

/-- Settles O28: the step is `evalPoll` after `validate`, on RB[3] and RB[4] when the response is valid and on nothing when it
is not. -/
theorem pollEvalStepRule : Obligations.PollEvalStepRule := by
  intro s u act running hs hp
  have stillPoll : u.runValidate.opr = .poll := by simpa using hp
  refine ⟨_, step_of_eval act running hs, ?_⟩
  rw [evalBranch_of_poll stillPoll]
  cases valid : validate u.response with
  | false =>
    rw [responseSeen_of_invalid valid, evalPoll_none, if_neg (by simp)]
    simp [Status.finished]
  | true =>
    rw [responseSeen_of_valid valid]
    by_cases bill : u.rb.read 3 = 0x81 ∧ u.rb.read 4 ≠ 0x00
    · rw [evalPoll_of_bill bill, if_pos ⟨rfl, bill⟩]
      simp
    · rw [if_neg (mt And.right bill), evalPoll_of_noBill bill]
      simp [Status.finished]

end Sys2Proof.Machine

/-! The state after reset (70_reset_and_hazards.md R211). -/

namespace Sys2Proof.Machine

/-- A STATUS with no flag set reads as 0x00 (10_state.md R29). -/
theorem Status.toByte_of_noFlags {t : Status} (busy : t.busy = false) (done : t.done = false) (badop : t.badop = false)
    (opened : t.opened = false) : t.toByte = 0x00 := by
  simp [Status.toByte, flagBit, busy, done, badop, opened]

/-- Settles O35: no flag of STATUS is set at reset, so it reads 0x00; the other clauses are R38's values read back. -/
theorem resetStateIsIdle : Obligations.ResetStateIsIdle :=
  have statusByte : State.reset.status.toByte = 0x00 := Status.toByte_of_noFlags rfl rfl rfl rfl
  ⟨rfl, statusByte, rfl, rfl, rfl, rfl, rfl, rfl⟩

end Sys2Proof.Machine

/-! The two directions of the round trip (30_encoding.md sections 1 to 5): OPREQ bytes on the host port, and frames on the
wire, where every row is `rowOf` of its command code. -/

namespace Sys2Proof.Machine

/-- OPREQ is its reserved bits and its op code (R82). -/
theorem opreqByte_extract (b : Byte) : opreqByte (b.extractLsb' 3 5) (b.extractLsb' 0 3) = b :=
  (BitVec.extractLsb'_append_extractLsb'_eq_extractLsb' rfl).trans BitVec.extractLsb'_eq_self

/-- A write to OPREQ is one row of the host port, and encodes as its byte. -/
theorem decodeOpreq_spec (r : BitVec 5) (op : BitVec 3) :
    encode (decodeOpreq (opreqByte r op)) = [opreqByte r op] ∧ (decodeOpreq (opreqByte r op)).wf = true ∧
      (decodeOpreq (opreqByte r op)).channel = some .hostPort := by
  have reservedCode : ∀ op : BitVec 3, op ≠ 0#3 → op ≠ 1#3 → op ≠ 2#3 → op ≠ 3#3 → 1#1 ++ op.extractLsb' 0 2 = op := by
    decide
  rw [opreqByte, decodeOpreq_append]
  split_ifs with isInit isReset isStart isPoll
  · exact ⟨by rw [isInit]; rfl, rfl, rfl⟩
  · exact ⟨by rw [isReset]; rfl, rfl, rfl⟩
  · exact ⟨by rw [isStart]; rfl, rfl, rfl⟩
  · exact ⟨by rw [isPoll]; rfl, rfl, rfl⟩
  · exact ⟨by rw [encode, reservedCode op isInit isReset isStart isPoll]; rfl, rfl, rfl⟩

/-- The bytes of a well-formed frame decode to the row of its command code. -/
theorem decode_wire_frameBytes {cmd : Byte} {f : Frame} (h : f.wf cmd = true) :
    decode .wire (frameBytes cmd f) = .ok (rowOf cmd f) := by
  obtain ⟨noFault, cmdByte, operands⟩ := decode_parts_of_frameBytes h
  simp only [decode, decodeFrame, noFault, cmdByte, operands]

/-- A command code without a row of its own goes to the catch-all row (R79). -/
theorem rowOf_unassigned {cmd : Byte} (h : assignedCmds.contains cmd = false) (f : Frame) :
    rowOf cmd f = .frameUnexpected cmd f := by
  simp only [assignedCmds, List.contains_eq_mem, List.mem_cons, List.not_mem_nil, or_false, decide_eq_false_iff_not,
    not_or] at h
  obtain ⟨notReset, notPoll, notStart, notAck, notBill⟩ := h
  simp only [rowOf, if_neg notReset, if_neg notPoll, if_neg notStart, if_neg notAck, if_neg notBill]

/-- Every well-formed FRAME row is the row of some command code, ACK's only for CMD 0x00 and the bill event's only for 0x81
(R79). -/
theorem frameRow_eq_rowOf {i : Instr} {f : Frame} {cmd : Byte}
    (row : i ∈ [Instr.frameReset f, .framePoll f, .frameStart f, .frameAck f, .frameBillEvent f, .frameUnexpected cmd f])
    (h : i.wf = true) :
    ∃ c, i = rowOf c f ∧ f.wf c = true ∧ (c ≠ Config.cmdAck ∨ i = .frameAck f) ∧
      (c ≠ Config.cmdBill ∨ i = .frameBillEvent f) := by
  simp only [List.mem_cons, List.not_mem_nil, or_false] at row
  obtain rfl | rfl | rfl | rfl | rfl | rfl := row
  · exact ⟨Config.cmdReset, rfl, h, .inl (by decide), .inl (by decide)⟩
  · exact ⟨Config.cmdPoll, rfl, h, .inl (by decide), .inl (by decide)⟩
  · exact ⟨Config.cmdStart, rfl, h, .inl (by decide), .inl (by decide)⟩
  · exact ⟨Config.cmdAck, rfl, h, .inr rfl, .inl (by decide)⟩
  · exact ⟨Config.cmdBill, rfl, h, .inl (by decide), .inr rfl⟩
  · obtain ⟨unassigned, fits⟩ := Bool.and_eq_true_iff.1 h
    rw [Bool.not_eq_true'] at unassigned
    refine ⟨cmd, (rowOf_unassigned unassigned f).symm, fits, .inl ?_, .inl ?_⟩
    all_goals rintro rfl; cases unassigned

/-- The row of a command code decodes back from its own bytes. -/
theorem decode_encode_rowOf {cmd : Byte} {f : Frame} (h : f.wf cmd = true) :
    decode .wire (encode (rowOf cmd f)) = .ok (rowOf cmd f) := by
  rw [(rowOf_spec cmd f).1, decode_wire_frameBytes h]

/-- Settles O1: on the host port by `decodeOpreq_append`, on the wire by `decode_encode_rowOf`; the codec functions have no
channel. -/
theorem encodeThenDecode : Obligations.EncodeThenDecode := by
  intro i c hwf hc
  cases i with
  | init r => cases hc; exact congrArg _ (decodeOpreq_append r 0)
  | reset r => cases hc; exact congrArg _ (decodeOpreq_append r 1)
  | start r => cases hc; exact congrArg _ (decodeOpreq_append r 2)
  | poll r => cases hc; exact congrArg _ (decodeOpreq_append r 3)
  | reservedOp r code => cases hc; exact congrArg _ (decodeOpreq_append_reserved r code)
  | frameReset f => cases hc; exact decode_encode_rowOf (cmd := Config.cmdReset) hwf
  | framePoll f => cases hc; exact decode_encode_rowOf (cmd := Config.cmdPoll) hwf
  | frameStart f => cases hc; exact decode_encode_rowOf (cmd := Config.cmdStart) hwf
  | frameAck f => cases hc; exact decode_encode_rowOf (cmd := Config.cmdAck) hwf
  | frameBillEvent f => cases hc; exact decode_encode_rowOf (cmd := Config.cmdBill) hwf
  | frameUnexpected cmd f =>
    cases hc
    obtain ⟨unassigned, fits⟩ := Bool.and_eq_true_iff.1 hwf
    rw [← rowOf_unassigned (by simpa using unassigned)]
    exact decode_encode_rowOf fits
  | crc16 d => cases hc
  | validate => cases hc
  | billType => cases hc

/-- What the wire decoder answers, and when: the row of CMD, on a response no check rejects (R71, R86). -/
theorem decodeFrame_eq_ok_iff (b : List Byte) (i : Instr) :
    decodeFrame b = .ok i ↔ wireFault b = none ∧ rowOf (byteAt b 3) (frameOf b) = i := by
  unfold decodeFrame
  cases wireFault b <;> simp

/-- Settles O2: a decoded OPREQ byte by `decodeOpreq_spec`, a decoded response by `frameBytes_frameOf` and `frameOf_wf`. -/
theorem decodeThenEncode : Obligations.DecodeThenEncode := by
  intro c b i h
  cases c with
  | hostPort =>
    match b, h with
    | [byte], h =>
      cases h
      have spec := decodeOpreq_spec (byte.extractLsb' 3 5) (byte.extractLsb' 0 3)
      rwa [opreqByte_extract] at spec
  | wire =>
    obtain ⟨noFault, rfl⟩ := (decodeFrame_eq_ok_iff b i).1 h
    obtain ⟨valid, fits⟩ := (wireFault_none_iff b).1 noFault
    obtain ⟨bytes, wf, channel⟩ := rowOf_spec (byteAt b 3) (frameOf b)
    exact ⟨bytes.trans (frameBytes_frameOf noFault), wf.trans (frameOf_wf valid fits), channel⟩

/-- Settles O5: in a buffer RB can hold, `validate` is the absence of a fault, and then the decoder answers a row. -/
theorem decoderAcceptsWhatValidateAccepts : Obligations.DecoderAcceptsWhatValidateAccepts := by
  intro b fits
  have noFault_iff : wireFault b = none ↔ validate b = true := by simp [wireFault_none_iff, fits]
  constructor
  · exact fun valid => ⟨_, (decodeFrame_eq_ok_iff b _).2 ⟨noFault_iff.2 valid, rfl⟩⟩
  · rintro ⟨i, h⟩
    exact noFault_iff.1 ((decodeFrame_eq_ok_iff b i).1 h).1

/-- Settles O3: fourteen words, each decoded by evaluation. -/
theorem specWordsDecode : Obligations.SpecWordsDecode := by
  refine ⟨?init, ?reset, ?start, ?poll, ?highBits, ?reserved, ?frameReset, ?framePoll, ?frameAck, ?frameStart, ?bill,
    ?unexpected, ?bare, ?swapped⟩
  all_goals decide +kernel

/-- Settles O4: over the 256 values of ADDR, CRC_LO of the bare frame is neither 0x00 nor 0x81. -/
theorem shortestFrameIsNeverAckOrBill : Obligations.ShortestFrameIsNeverAckOrBill := by
  have crcLo : ∀ addr : Byte, loByte (crc16 [Config.sync, addr, 5]) ≠ Config.cmdAck ∧
      loByte (crc16 [Config.sync, addr, 5]) ≠ Config.cmdBill := by decide +kernel
  intro addr
  exact ⟨beq_false_of_ne (crcLo addr).1, beq_false_of_ne (crcLo addr).2⟩

end Sys2Proof.Machine

/-! The CRC as a linear and injective map (40_codec.md R101 to R103), and what that gives the validator (R109, R110). -/

namespace Sys2Proof.Machine

/-- A bit step distributes over XOR (R103 (c)). -/
theorem crcBit_xor (x y : Word16) : crcBit (x ^^^ y) = crcBit x ^^^ crcBit y := by
  unfold crcBit
  rw [BitVec.getLsbD_xor, BitVec.ushiftRight_xor_distrib]
  cases x.getLsbD 0 <;> cases y.getLsbD 0 <;>
    simp only [Bool.xor_false, Bool.false_xor, Bool.xor_self, Bool.false_eq_true, if_true, if_false]
  · ac_rfl
  · ac_rfl
  · rw [BitVec.xor_assoc, BitVec.xor_comm _ Config.poly, ← BitVec.xor_assoc Config.poly]; simp

theorem crcBits_xor (k : Nat) (x y : Word16) : crcBits k (x ^^^ y) = crcBits k x ^^^ crcBits k y := by
  induction k generalizing x y with
  | zero => rfl
  | succ k ih => rw [crcBits, crcBit_xor, ih, crcBits, crcBits]

/-- Bits that no step reaches are only shifted down. -/
theorem crcBits_of_low_zero (k : Nat) (x : Word16) (low : ∀ i < k, x.getLsbD i = false) : crcBits k x = x >>> k := by
  induction k generalizing x with
  | zero => simp [crcBits]
  | succ k ih =>
    have shifted : crcBit x = x >>> 1 := by
      simp only [crcBit, low 0 (Nat.succ_pos k), Bool.false_eq_true, if_false]
    have low' : ∀ i < k, (x >>> 1).getLsbD i = false := fun i hi => by
      rw [BitVec.getLsbD_ushiftRight]
      exact low (1 + i) (by omega)
    rw [crcBits, shifted, ih _ low', ← BitVec.shiftRight_add, Nat.add_comm]

/-- Bit 15 after a step is bit 0 before it: the shift clears it and the polynomial sets it. -/
theorem crcBit_getLsbD_fifteen (x : Word16) : (crcBit x).getLsbD 15 = x.getLsbD 0 := by
  unfold crcBit
  split <;> simp_all [Config.poly]

/-- A bit step loses nothing: the bit shifted out chooses the XOR. -/
theorem crcBit_injective : Function.Injective crcBit := by
  intro x y h
  have lowBit : x.getLsbD 0 = y.getLsbD 0 := by
    rw [← crcBit_getLsbD_fifteen, h, crcBit_getLsbD_fifteen]
  have others : x >>> 1 = y >>> 1 := by
    simp only [crcBit, lowBit] at h
    split at h
    · exact (BitVec.xor_left_inj _).1 h
    · exact h
  apply BitVec.eq_of_getLsbD_eq
  intro i hi
  cases i with
  | zero => exact lowBit
  | succ i =>
    have bit := congrArg (·.getLsbD i) others
    simpa [Nat.add_comm] using bit

theorem crcBits_injective (k : Nat) : Function.Injective (crcBits k) := by
  induction k with
  | zero => exact Function.injective_id
  | succ k ih => exact ih.comp crcBit_injective

/-- A 16-bit value is its high half in place and its low half (00_scope.md R13). -/
theorem highPart_xor_loByte (w : Word16) : (w >>> 8 <<< 8) ^^^ (loByte w).setWidth 16 = w := by
  apply BitVec.eq_of_getLsbD_eq
  intro i hi
  by_cases low : i < 8
  · simp [loByte, low, hi]
  · simp [loByte, low, hi, Nat.add_sub_cancel' (Nat.le_of_not_lt low)]

theorem crcBits_eight_shiftLeft (w : Word16) : crcBits 8 (w >>> 8 <<< 8) = w >>> 8 := by
  rw [crcBits_of_low_zero 8 _ (fun i hi => by simp [hi])]
  apply BitVec.eq_of_getLsbD_eq
  intro i hi
  by_cases low : i < 8
  · simp [Nat.add_comm 8 i, show i + 8 < 16 by omega]
  · simp [BitVec.getLsbD_of_ge w (8 + i) (by omega)]

/-- Settles O6: the accumulator is its high half, which eight steps shift down, and its low half, which meets the byte. -/
theorem crcByteTableForm : Obligations.CrcByteTableForm := by
  intro acc b
  have halves : acc ^^^ b.setWidth 16 = (acc >>> 8 <<< 8) ^^^ (0 ^^^ (loByte acc ^^^ b).setWidth 16) := by
    rw [show (0 : Word16) = 0#16 from rfl, BitVec.zero_xor, BitVec.setWidth_xor, ← BitVec.xor_assoc, highPart_xor_loByte]
  calc crcByte acc b
    _ = crcBits 8 (acc >>> 8 <<< 8) ^^^ crcByte 0 (loByte acc ^^^ b) := by rw [crcByte, halves, crcBits_xor, crcByte]
    _ = acc >>> 8 ^^^ crcByte 0 (loByte acc ^^^ b) := by rw [crcBits_eight_shiftLeft]

/-- A byte equal to the low half of the accumulator shifts the high half down: the table form at entry 0. -/
theorem crcByte_loByte (acc : Word16) : crcByte acc (loByte acc) = acc >>> 8 := by
  have entryZero : crcByte 0 0#8 = 0#16 := by decide
  rw [crcByteTableForm, BitVec.xor_self, entryZero, BitVec.xor_zero]

/-- Settles O7: each byte of the trailer cancels the low half of the accumulator it meets. -/
theorem crcResidueIsZero : Obligations.CrcResidueIsZero := by
  intro m
  calc crc16 (m ++ [loByte (crc16 m), hiByte (crc16 m)])
    _ = crcByte (crcByte (crc16 m) (loByte (crc16 m))) (hiByte (crc16 m)) := crcFrom_append _ m _
    _ = crcByte (crc16 m >>> 8) (loByte (crc16 m >>> 8)) := by rw [crcByte_loByte]; rfl
    _ = crc16 m >>> 8 >>> 8 := crcByte_loByte _
    _ = 0 := by rw [← BitVec.shiftRight_add]; exact BitVec.ushiftRight_eq_zero (Nat.le_refl 16)

theorem crcByte_xor (x y : Word16) (a b : Byte) : crcByte (x ^^^ y) (a ^^^ b) = crcByte x a ^^^ crcByte y b := by
  have regroup : x ^^^ y ^^^ (a ^^^ b).setWidth 16 = (x ^^^ a.setWidth 16) ^^^ (y ^^^ b.setWidth 16) := by
    rw [BitVec.setWidth_xor]
    ac_rfl
  rw [crcByte, regroup, crcBits_xor, crcByte, crcByte]

theorem crcFrom_zipWith_xor (acc acc' : Word16) (x y : List Byte) (len : x.length = y.length) :
    crcFrom (acc ^^^ acc') (List.zipWith (· ^^^ ·) x y) = crcFrom acc x ^^^ crcFrom acc' y := by
  induction x generalizing acc acc' y with
  | nil =>
    obtain rfl : y = [] := List.eq_nil_of_length_eq_zero len.symm
    rfl
  | cons a x ih =>
    obtain ⟨b, y, rfl⟩ := List.exists_cons_of_length_eq_add_one len.symm
    rw [List.zipWith_cons_cons, crcFrom, crcByte_xor, ih _ _ y (Nat.succ.inj len), crcFrom, crcFrom]

/-- Settles O8: `crcFrom_zipWith_xor` from the accumulators 0 and 0. -/
theorem crcIsLinear : Obligations.CrcIsLinear := fun x y len => crcFrom_zipWith_xor Config.crcInit Config.crcInit x y len

/-- SYNC from CRC_INIT gives the seed of R109. -/
theorem crc16_sync_cons (d : List Byte) : crc16 (Config.sync :: d) = crcFrom 0x2312 d := by
  have seed : crcByte Config.crcInit Config.sync = 0x2312 := by decide
  rw [crc16, crcFrom, seed]

/-- Under the header checks the covered part starts with SYNC. -/
theorem coveredOf_of_headerOk {b : List Byte} (header : headerOk b = true) : ∃ d, coveredOf b = Config.sync :: d := by
  simp only [headerOk, Bool.and_eq_true, decide_eq_true_eq, beq_iff_eq] at header
  obtain ⟨⟨fiveBytes, isSync⟩, -⟩ := header
  match b, fiveBytes, isSync with
  | first :: second :: third :: rest, _, isSync =>
    obtain rfl : first = Config.sync := isSync
    exact ⟨_, rfl⟩

/-- Settles O9: a header that passes starts with SYNC, whose CRC is the seed. -/
theorem validateFromAddrWithSeed : Obligations.ValidateFromAddrWithSeed := by
  intro b
  cases header : headerOk b with
  | false => simp only [validate, header, Bool.false_and]
  | true =>
    obtain ⟨d, covered⟩ := coveredOf_of_headerOk header
    rw [validate, header, covered, crc16_sync_cons, List.drop_one, List.tail_cons]

/-! One flipped bit (R110). -/

theorem crcFrom_left_injective (d : List Byte) : Function.Injective (crcFrom · d) := by
  induction d with
  | nil => exact Function.injective_id
  | cons b d ih =>
    intro x y h
    have sameByte : crcByte x b = crcByte y b := ih h
    exact (BitVec.xor_left_inj _).1 (crcBits_injective 8 sameByte)

theorem crcByte_right_injective (acc : Word16) : Function.Injective (crcByte acc) := by
  intro x y h
  have extended : x.setWidth 16 = y.setWidth 16 := (BitVec.xor_right_inj _).1 (crcBits_injective 8 h)
  simpa using congrArg (BitVec.setWidth 8) extended

/-- One changed byte changes the CRC: no later byte can bring the accumulators together again. -/
theorem crc16_set_ne {d : List Byte} {i : Nat} {b : Byte} (hi : i < d.length) (changed : b ≠ d[i]) :
    crc16 (d.set i b) ≠ crc16 d := by
  intro same
  rw [List.set_eq_take_append_cons_drop, if_pos hi] at same
  conv at same => rhs; rw [← List.take_append_drop i d, List.drop_eq_getElem_cons hi]
  rw [crc16, crc16, crcFrom_append, crcFrom_append, crcFrom, crcFrom] at same
  exact changed (crcByte_right_injective _ (crcFrom_left_injective _ same))

/-- A bit mask of one of the eight bits changes every byte. -/
theorem xor_bit_ne {k : Nat} (hk : k < 8) (b : Byte) : b ^^^ (1#8 <<< k) ≠ b := by
  intro same
  have bit := congrArg (·.getLsbD k) same
  simp [hk] at bit

theorem byteAt_eq_getElem {b : List Byte} {i : Nat} (hi : i < b.length) : byteAt b i = b[i] := by
  simp [byteAt, hi]

theorem byteAt_set_other {i j : Nat} (h : j ≠ i) (b : List Byte) (x : Byte) : byteAt (b.set i x) j = byteAt b j := by
  simp [byteAt, List.getElem?_set_ne h.symm]

theorem byteAt_set_same {b : List Byte} {i : Nat} (hi : i < b.length) (x : Byte) : byteAt (b.set i x) i = x := by
  simp [byteAt, hi]

/-- A changed byte before the trailer leaves the trailer as it was. -/
theorem trailerOf_set {b : List Byte} {i : Nat} (hi : i < b.length - 2) (x : Byte) : trailerOf (b.set i x) = trailerOf b := by
  rw [trailerOf, trailerOf, List.length_set, byteAt_set_other (by omega), byteAt_set_other (by omega)]

/-- Equal check values are equal trailer bytes. -/
theorem byteAt_eq_of_trailerOf_eq {b c : List Byte} (len : b.length = c.length) (h : trailerOf b = trailerOf c) :
    byteAt b (c.length - 1) = byteAt c (c.length - 1) ∧ byteAt b (c.length - 2) = byteAt c (c.length - 2) := by
  simp only [trailerOf, len] at h
  constructor
  · simpa only [hiByte_catBytes] using congrArg hiByte h
  · simpa only [loByte_catBytes] using congrArg loByte h

/-- Settles O10: a changed byte of the covered part, SYNC and LEN included, changes the CRC and not the trailer; a changed
byte of the trailer changes the trailer and not the CRC. -/
theorem singleBitErrorIsRejected : Obligations.SingleBitErrorIsRejected := by
  intro b i k valid hi hk
  have changed : byteAt b i ^^^ (1#8 <<< k) ≠ byteAt b i := xor_bit_ne hk _
  generalize byteAt b i ^^^ (1#8 <<< k) = x at changed
  obtain ⟨-, -, -, crc⟩ := (validate_iff b).1 valid
  rw [← Bool.not_eq_true, validate_iff]
  rintro ⟨-, -, -, crc'⟩
  have covered : coveredOf (b.set i x) = (coveredOf b).set i x := by rw [coveredOf, List.length_set, List.take_set, coveredOf]
  rw [covered] at crc'
  have coveredLen : (coveredOf b).length = b.length - 2 := by rw [coveredOf, List.length_take, Nat.min_eq_left (Nat.sub_le _ _)]
  by_cases inCovered : i < (coveredOf b).length
  · rw [trailerOf_set (coveredLen ▸ inCovered), ← crc] at crc'
    refine crc16_set_ne inCovered ?_ crc'
    rwa [byteAt_eq_getElem hi, ← List.getElem_take (h := inCovered)] at changed
  · rw [List.set_eq_of_length_le (Nat.le_of_not_lt inCovered), crc] at crc'
    obtain ⟨last, beforeLast⟩ := byteAt_eq_of_trailerOf_eq (b.length_set ..) crc'.symm
    apply changed
    rw [← byteAt_set_same hi x]
    obtain rfl | rfl : i = b.length - 1 ∨ i = b.length - 2 := by omega
    · exact last
    · exact beforeLast

end Sys2Proof.Machine

/-! The codec rows over the cells of RB (40_codec.md R100, R104, R107, R108). -/

namespace Sys2Proof.Machine

/-- Settles O13: the row is `runCrc`, which writes ACC only. -/
theorem crcUnitComputesCrc16 : Obligations.CrcUnitComputesCrc16 := fun _ _ => rfl

/-- The covered part of the response is a range of RB (R74). -/
theorem coveredOf_response (s : State) : coveredOf s.response = s.rb.bytes 0 (s.rlen.val - 2) := by
  rw [coveredOf, length_response, State.response, Memory.take_bytes _ _ _ _ (Nat.sub_le _ _)]

/-- `validate` of the response is R104's four checks over the cells of RB. -/
theorem validate_response_iff (s : State) : validate s.response = true ↔
    5 ≤ s.rlen.val ∧ s.rb.read 0 = 0x02 ∧ (s.rb.read 2).toNat = s.rlen.val ∧
      crc16 (s.rb.bytes 0 (s.rlen.val - 2)) = catBytes (s.rb.read (s.rlen.val - 1)) (s.rb.read (s.rlen.val - 2)) := by
  rw [validate_iff, length_response, coveredOf_response, trailerOf, length_response]
  refine and_congr_right fun fiveBytes => ?_
  rw [byteAt_response (by omega), byteAt_response (by omega), byteAt_response (by omega), byteAt_response (by omega)]

/-- Two states that agree in every element are the same state. -/
theorem State.ext_fields {s t : State} (rb : s.rb = t.rb) (rlen : s.rlen = t.rlen) (seq : s.seq = t.seq) (opr : s.opr = t.opr)
    (att : s.att = t.att) (iatt : s.iatt = t.iatt) (t0 : s.t0 = t.t0) (acc : s.acc = t.acc) (status : s.status = t.status)
    (result : s.result = t.result) (rxq : s.rxq = t.rxq) (txlog : s.txlog = t.txlog) (openlog : s.openlog = t.openlog)
    (now : s.now = t.now) (fault : s.fault = t.fault) (rst : s.rst = t.rst) (txReady : s.txReady = t.txReady)
    (codec : s.codec = t.codec) (rdlog : s.rdlog = t.rdlog) (sched : s.sched = t.sched) (drawn : s.drawn = t.drawn)
    (par : s.par = t.par) : s = t := by
  cases s; cases t; simp_all

@[simp] theorem runValidate_codec (s : State) : s.runValidate.codec = ⟨validate s.response, s.codec.bill⟩ := by
  unfold State.runValidate
  split <;> rfl

/-- Settles O14: the row is `runValidate`, which shows `validate` of the response and writes ACC besides. -/
theorem validateMakesFourChecks : Obligations.ValidateMakesFourChecks := by
  intro s
  refine ⟨s.runValidate, rfl, ?checks, ?frame⟩
  case checks => rw [runValidate_codec, validate_response_iff]
  case frame => apply State.ext_fields <;> simp

/-- Settles O15: a validated response has at least five bytes, so its bytes 3 and 4 are RB[3] and RB[4]. -/
theorem billTypeReadsByteFour : Obligations.BillTypeReadsByteFour := by
  intro s
  constructor
  · intro valid
    obtain ⟨fiveBytes, -⟩ := (validate_response_iff s).1 valid
    have shown : billType s.response = if s.rb.read 3 = 0x81 then some (s.rb.read 4) else none := by
      simp only [billType, byteAt_response (show 3 < s.rlen.val by omega), byteAt_response (show 4 < s.rlen.val by omega),
        beq_iff_eq]
    rw [exec, execBillType, if_pos valid, shown, State.showBill]
  · intro invalid
    rw [exec, execBillType, if_neg (by simp [invalid])]

end Sys2Proof.Machine

/-! Frames and effects of the HOSTOP and FRAME rows (42_operations.md R150 to R153, 41_exchange.md R122, R125, R132). -/

namespace Sys2Proof.Machine

@[simp] theorem begin_opened (s : State) (op : HostOp) : (s.begin op).status.opened = s.status.opened := by
  rcases begin_cases s op with ⟨-, h⟩ | ⟨-, -, h⟩ | ⟨-, -, h⟩ <;> simp [h]

/-- Only a request that finishes at once writes RESULT (R150, R167). -/
theorem begin_result {s : State} (retries : s.par.maxRetry ≠ 0) (op : HostOp) : (s.begin op).result = s.result := by
  rcases begin_cases s op with ⟨-, h⟩ | ⟨-, -, h⟩ | ⟨-, noRetries, -⟩
  · simp [h]
  · simp [h]
  · exact absurd noRetries retries

@[simp] theorem request_opened (s : State) (op : HostOp) : (s.request op).status.opened = s.status.opened := by
  rcases request_cases s op with ⟨-, h⟩ | ⟨-, h | h⟩ <;> simp [h]

theorem request_result {s : State} (retries : s.par.maxRetry ≠ 0) (op : HostOp) : (s.request op).result = s.result := by
  rcases request_cases s op with ⟨-, h⟩ | ⟨-, h | h⟩
  · simp [h]
  · simp [h, begin_result retries]
  · simp [h, begin_result (s := s.raiseFault .notOpened) retries]

/-- A reserved code is ignored while busy, and sets BADOP otherwise (R151, R152). -/
theorem requestReserved_cases (s : State) :
    s.requestReserved = s.raiseFault .hostBusy ∨
    s.requestReserved = { s.raiseFault .badOp with status := s.status.sawBadOp } := by
  cases busy : s.status.busy with
  | true => exact .inl (requestReserved_of_busy busy)
  | false => exact .inr (requestReserved_of_free busy)

@[simp] theorem requestReserved_opened (s : State) : s.requestReserved.status.opened = s.status.opened := by
  rcases requestReserved_cases s with h | h <;> simp [h]

/-- A HOSTOP row is one of the four requests, or R152's. -/
theorem exec_hostRow {i : Instr} {r : BitVec 5} {c : BitVec 2}
    (row : i ∈ [Instr.init r, .reset r, .start r, .poll r, .reservedOp r c]) (s : State) :
    (∃ op, exec i s = .next (s.request op)) ∨ exec i s = .next s.requestReserved := by
  simp only [List.mem_cons, List.not_mem_nil, or_false] at row
  obtain rfl | rfl | rfl | rfl | rfl := row
  · exact .inl ⟨.init, rfl⟩
  · exact .inl ⟨.reset, rfl⟩
  · exact .inl ⟨.start, rfl⟩
  · exact .inl ⟨.poll, rfl⟩
  · exact .inr rfl

/-- Settles O18: the frames of `request` and of `requestReserved`. -/
theorem hostRequestFrame : Obligations.HostRequestFrame := by
  intro s r c i row
  rcases exec_hostRow row s with ⟨op, h⟩ | h
  · refine ⟨_, h, by simp, ?_, request_opened s op, fun retries => request_result retries op⟩
    apply State.ext_fields <;> simp
  · refine ⟨_, h, by simp, ?_, requestReserved_opened s, fun _ => by simp⟩
    apply State.ext_fields <;> simp

theorem sendCommand_of_ready {s : State} (ready : s.txReady = true) :
    s.sendCommand =
      { s.txWrite (frameFor s.opr) with att := s.att + 1, rlen := 0, t0 := s.stamp, seq := .collect } := if_pos ready

/-- TX_CMD holds while the transport does not accept (R122, R193). -/
theorem sendCommand_of_notReady {s : State} (held : s.txReady = false) : s.sendCommand = s := if_neg (by simp [held])

/-- Settles O19: the row is `commandInstr` of OPR, so the step is `sendCommand`. -/
theorem commandFrameIsSent : Obligations.CommandFrameIsSent := by
  intro s hs p row hop
  have command : p.2.1 = commandInstr s.opr ∧ p.2.2 = frameFor s.opr := by
    rw [hop]
    simp only [List.mem_cons, List.not_mem_nil, or_false] at row
    obtain rfl | rfl | rfl | rfl := row <;> exact ⟨rfl, rfl⟩
  rw [command.1, command.2, exec_commandInstr hs]
  exact ⟨fun ready => congrArg _ (sendCommand_of_ready ready), fun held => congrArg _ (sendCommand_of_notReady held)⟩

/-- The value TX_ACK finishes with (R132). -/
theorem sendAck_of_ready {s : State} (ready : s.txReady = true) (hop : s.opr = .start ∨ s.opr = .poll) :
    s.sendAck = (s.txWrite ackFrame).finish (if s.opr = .start then 0x01 else s.rb.read 4) := by
  rcases hop with hop | hop <;> simp [State.sendAck, hop, ready]

/-- TX_ACK holds while the transport does not accept (R132, R193). -/
theorem sendAck_of_notReady {s : State} (held : s.txReady = false) : s.sendAck = s := by
  cases hop : s.opr <;> simp [State.sendAck, hop, held]

/-- Settles O20: the row is `ackInstr`, so the step is `sendAck`. -/
theorem ackFrameIsSent : Obligations.AckFrameIsSent := by
  intro s hs hop
  have acked : exec (.frameAck (.full 0x03 [])) s = .next s.sendAck := exec_ackInstr hs
  rw [acked]
  exact ⟨fun ready => congrArg _ (sendAck_of_ready ready hop), fun held => congrArg _ (sendAck_of_notReady held)⟩

/-- EVAL of a well-formed frame takes OPR's branch on its CMD and its byte 4 (R125, 30_encoding.md R80). -/
theorem exec_rowOf_of_eval {s : State} (hs : s.seq = .eval) {cmd : Byte} {f : Frame} (h : f.wf cmd = true) :
    exec (rowOf cmd f) s = .next (s.evalBranch (some ⟨cmd, byteAt (frameBytes cmd f) 4⟩)) := by
  obtain ⟨noFault, cmdByte, operands⟩ := decode_parts_of_frameBytes h
  have run := exec_rowOf_eval hs noFault
  rwa [cmdByte, operands] at run

theorem evalBranch_of_init_or_reset {s : State} (hop : s.opr = .init ∨ s.opr = .reset) (rx : Option Received) :
    s.evalBranch rx = s.evalReset rx := by
  rcases hop with hop | hop <;> simp only [State.evalBranch, hop]

theorem evalBranch_of_start {s : State} (hop : s.opr = .start) (rx : Option Received) :
    s.evalBranch rx = s.evalStart rx := by
  simp only [State.evalBranch, hop]

theorem evalReset_of_ack {s : State} {r : Received} (ack : r.cmd = Config.cmdAck) :
    s.evalReset (some r) = s.enterWait .waitResetSettle := if_pos ack

theorem evalReset_of_notAck {s : State} {r : Received} (other : r.cmd ≠ Config.cmdAck) :
    s.evalReset (some r) = s.attemptFailed := if_neg other

theorem evalStart_of_ack {s : State} {r : Received} (ack : r.cmd = Config.cmdAck) :
    s.evalStart (some r) = { s with seq := .txAck } := if_pos ack

theorem evalStart_of_notAck {s : State} {r : Received} (other : r.cmd ≠ Config.cmdAck) :
    s.evalStart (some r) = s.attemptFailed := if_neg other

/-- A well-formed FRAME row other than ACK's is the row of a CMD other than 0x00 (R79). -/
theorem rowOf_of_notAckRow {i : Instr} {f : Frame} {cmd : Byte}
    (row : i ∈ [Instr.frameReset f, .framePoll f, .frameStart f, .frameBillEvent f, .frameUnexpected cmd f])
    (h : i.wf = true) : ∃ c, i = rowOf c f ∧ f.wf c = true ∧ c ≠ Config.cmdAck := by
  have notAck : i ≠ .frameAck f := by rintro rfl; simp at row
  have anyRow : i ∈ [Instr.frameReset f, .framePoll f, .frameStart f, .frameAck f, .frameBillEvent f, .frameUnexpected cmd f] := by
    simp only [List.mem_cons] at row ⊢; tauto
  obtain ⟨c, isRow, fits, ack, -⟩ := frameRow_eq_rowOf anyRow h
  exact ⟨c, isRow, fits, ack.resolve_right notAck⟩

/-- Settles O21: `evalReset` asks for CMD 0x00. -/
theorem resetAcceptsOnlyAck : Obligations.ResetAcceptsOnlyAck := by
  intro s f cmd hs hop
  constructor
  · intro fits
    have run := exec_rowOf_of_eval hs (cmd := Config.cmdAck) fits
    rwa [evalBranch_of_init_or_reset hop, evalReset_of_ack rfl] at run
  · intro i row h
    obtain ⟨c, rfl, fits, notAck⟩ := rowOf_of_notAckRow row h
    rw [exec_rowOf_of_eval hs fits, evalBranch_of_init_or_reset hop, evalReset_of_notAck notAck]

/-- Settles O22: `evalStart` asks for CMD 0x00. -/
theorem startAcceptsOnlyAck : Obligations.StartAcceptsOnlyAck := by
  intro s f cmd hs hop
  constructor
  · intro fits
    have run := exec_rowOf_of_eval hs (cmd := Config.cmdAck) fits
    rwa [evalBranch_of_start hop, evalStart_of_ack rfl] at run
  · intro i row h
    obtain ⟨c, rfl, fits, notAck⟩ := rowOf_of_notAckRow row h
    rw [exec_rowOf_of_eval hs fits, evalBranch_of_start hop, evalStart_of_notAck notAck]

/-- Settles O23: `evalPoll` asks for CMD 0x81 and a byte 4 other than 0. -/
theorem pollReportsNonzeroBillOnly : Obligations.PollReportsNonzeroBillOnly := by
  intro s f cmd hs hop
  constructor
  · intro fits
    have run := exec_rowOf_of_eval hs (cmd := Config.cmdBill) fits
    rw [evalBranch_of_poll hop] at run
    refine run.trans (congrArg _ ?_)
    by_cases nonzero : byteAt (frameBytes Config.cmdBill f) 4 ≠ 0x00
    · rw [evalPoll_of_bill ⟨rfl, nonzero⟩]
      exact (if_pos nonzero).symm
    · rw [evalPoll_of_noBill (fun bill => nonzero bill.2)]
      exact (if_neg nonzero).symm
  · intro i row h
    have notBillRow : i ≠ .frameBillEvent f := by rintro rfl; simp at row
    have anyRow : i ∈ [Instr.frameReset f, .framePoll f, .frameStart f, .frameAck f, .frameBillEvent f,
        .frameUnexpected cmd f] := by
      simp only [List.mem_cons] at row ⊢; tauto
    obtain ⟨c, rfl, fits, -, bill⟩ := frameRow_eq_rowOf anyRow h
    have notBill : c ≠ Config.cmdBill := bill.resolve_right notBillRow
    rw [exec_rowOf_of_eval hs fits, evalBranch_of_poll hop, evalPoll_of_noBill (fun bill => notBill bill.1), if_neg notBill]
    rfl

end Sys2Proof.Machine

/-! What the sequencer's own steps come to, one equation per case (41_exchange.md R123, R124, 42_operations.md R155, R163 to
R165); the flags and equations of the retry sequencer (R162 to R168); the frame of the FRAME rows. -/

namespace Sys2Proof.Machine

/-- The OPEN step's own writes, before INIT's first run (R155). -/
def State.markOpened (s : State) : State :=
  { s with openlog := s.openlog ++ [s.par.baud], status := s.status.sawOpen }

theorem openStep_cases (s : State) :
    (s.par.initAttempts = 0 ∧ s.openStep = s.markOpened.finish 0x00) ∨
    (s.par.initAttempts ≠ 0 ∧ s.openStep = State.startResetRun { s.markOpened with iatt := 1 }) := by
  by_cases noRuns : s.par.initAttempts = 0
  · exact .inl ⟨noRuns, if_pos noRuns⟩
  · exact .inr ⟨noRuns, if_neg noRuns⟩

theorem exitRetry_cases (s : State) :
    (s.att < s.par.maxRetry ∧ s.exitRetry = { s with seq := .txCmd }) ∨
    (s.par.maxRetry ≤ s.att ∧ s.exitRetry = s.loopExhausted) := by
  by_cases attemptLeft : s.att < s.par.maxRetry
  · exact .inl ⟨attemptLeft, if_pos attemptLeft⟩
  · exact .inr ⟨Nat.le_of_not_lt attemptLeft, if_neg attemptLeft⟩

/-- The last case is the operations that are never in this wait (log 14). -/
theorem exitResetSettle_cases (s : State) :
    (s.opr = .init ∧ s.exitResetSettle = s.enterWait .waitInitSettle) ∨
    (s.opr = .reset ∧ s.exitResetSettle = s.finish 0x01) ∨ s.exitResetSettle = s := by
  cases hop : s.opr with
  | init => exact .inl ⟨rfl, by simp only [State.exitResetSettle, hop]⟩
  | reset => exact .inr (.inl ⟨rfl, by simp only [State.exitResetSettle, hop]⟩)
  | start => exact .inr (.inr (by simp only [State.exitResetSettle, hop]))
  | poll => exact .inr (.inr (by simp only [State.exitResetSettle, hop]))

theorem exitInitRetry_cases (s : State) :
    (s.iatt < s.par.initAttempts ∧ s.exitInitRetry = State.startResetRun { s with iatt := s.iatt + 1 }) ∨
    (s.par.initAttempts ≤ s.iatt ∧ s.exitInitRetry = s.finish 0x00) := by
  by_cases runLeft : s.iatt < s.par.initAttempts
  · exact .inl ⟨runLeft, if_pos runLeft⟩
  · exact .inr ⟨Nat.le_of_not_lt runLeft, if_neg runLeft⟩

theorem drainStep_cases (s : State) :
    s.drainStep = { s with seq := .eval } ∨ ∃ q, s.drainStep = { s with rxq := q } := by
  unfold State.drainStep
  split
  · exact .inl rfl
  · exact .inr ⟨_, rfl⟩

/-- COLLECT's byte writes RB, RLEN, RXQ and SEQ only (R123). -/
@[simp] theorem store_frame (s : State) (b : Byte) (q : List Byte) (room : s.rlen.val < 16) :
    (s.store b q room).rb = s.rb.write s.rlen b ∧ (s.store b q room).rxq = q ∧ (s.store b q room).opr = s.opr ∧
    (s.store b q room).att = s.att ∧ (s.store b q room).iatt = s.iatt ∧ (s.store b q room).t0 = s.t0 ∧
    (s.store b q room).status = s.status ∧ (s.store b q room).result = s.result ∧ (s.store b q room).txlog = s.txlog ∧
    (s.store b q room).openlog = s.openlog ∧ (s.store b q room).now = s.now ∧ (s.store b q room).fault = s.fault ∧
    (s.store b q room).rst = s.rst ∧ (s.store b q room).rdlog = s.rdlog ∧ (s.store b q room).par = s.par :=
  ⟨rfl, rfl, rfl, rfl, rfl, rfl, rfl, rfl, rfl, rfl, rfl, rfl, rfl, rfl, rfl⟩

/-- The sixteenth byte leaves COLLECT for DRAIN (R68, R123). -/
theorem store_seq_cases (s : State) (b : Byte) (q : List Byte) (room : s.rlen.val < 16) :
    (s.rlen.val + 1 = 16 ∧ (s.store b q room).seq = .drain) ∨ (s.rlen.val + 1 < 16 ∧ (s.store b q room).seq = .collect) := by
  by_cases last : s.rlen.val + 1 = 16
  · exact .inl ⟨last, if_pos last⟩
  · exact .inr ⟨by omega, if_neg last⟩

/-- No rule of the retry sequencer writes BADOP or OPENED (R29). -/
@[simp] theorem resetRunFailed_flags (s : State) : s.resetRunFailed.status.opened = s.status.opened ∧
    s.resetRunFailed.status.badop = s.status.badop := by
  rcases resetRunFailed_cases s with ⟨h, -⟩ | ⟨h, -⟩ | ⟨h, -⟩ <;> simp [h]

@[simp] theorem loopExhausted_flags (s : State) : s.loopExhausted.status.opened = s.status.opened ∧
    s.loopExhausted.status.badop = s.status.badop := by
  rcases loopExhausted_cases s with ⟨h, -⟩ | ⟨h, -⟩ | ⟨h, -⟩ <;> simp [h]

@[simp] theorem attemptFailed_flags (s : State) : s.attemptFailed.status.opened = s.status.opened ∧
    s.attemptFailed.status.badop = s.status.badop := by
  rcases attemptFailed_cases s with ⟨h, -⟩ | ⟨-, h⟩ <;> simp [h]

@[simp] theorem startResetRun_flags (s : State) : s.startResetRun.status.opened = s.status.opened ∧
    s.startResetRun.status.badop = s.status.badop := by
  rcases startResetRun_cases s with ⟨-, h⟩ | ⟨-, h⟩ <;> simp [h]

@[simp] theorem evalBranch_flags (s : State) (rx : Option Received) :
    (s.evalBranch rx).status.opened = s.status.opened ∧ (s.evalBranch rx).status.badop = s.status.badop := by
  rcases evalBranch_cases s rx with ⟨h, -⟩ | ⟨h, -⟩ | ⟨h, -⟩ | ⟨-, d, h⟩ | ⟨-, d, r, h, -⟩ <;> simp [h]

/-- What TX_ACK comes to: ACK is out and the operation finished, or nothing (R132; log 14 for INIT and RESET). -/
theorem sendAck_cases (s : State) :
    (s.txReady = true ∧ (s.opr = .start ∨ s.opr = .poll) ∧
      s.sendAck = (s.txWrite ackFrame).finish (if s.opr = .start then 0x01 else s.rb.read 4)) ∨ s.sendAck = s := by
  cases ready : s.txReady with
  | false => exact .inr (sendAck_of_notReady ready)
  | true =>
    cases hop : s.opr with
    | init => exact .inr (by simp only [State.sendAck, hop])
    | reset => exact .inr (by simp only [State.sendAck, hop])
    | start => exact .inl ⟨rfl, .inl rfl, by rw [sendAck_of_ready ready (.inl hop), hop]⟩
    | poll => exact .inl ⟨rfl, .inr rfl, by rw [sendAck_of_ready ready (.inr hop), hop]⟩

@[simp] theorem sendAck_flags (s : State) : s.sendAck.status.opened = s.status.opened ∧
    s.sendAck.status.badop = s.status.badop := by
  rcases sendAck_cases s with ⟨-, -, h⟩ | h <;> simp [h]

section FrameRows

variable {i : Instr} {f : Frame} {cmd : Byte}
  (row : i ∈ [Instr.frameReset f, .framePoll f, .frameStart f, .frameAck f, .frameBillEvent f, .frameUnexpected cmd f])
  {s : State}
include row

/-- In TX_CMD a command row that is `frame_for(OPR)` goes out, and no other frame has an effect (R122; log 13). -/
theorem exec_frameRow_of_txCmd (hs : s.seq = .txCmd) : exec i s = .next s ∨ exec i s = .next s.sendCommand := by
  have command : ∀ c, s.commandFrame c f = s ∨ s.commandFrame c f = s.sendCommand := by
    intro c
    simp only [State.commandFrame, hs]
    split
    · exact .inr rfl
    · exact .inl rfl
  have ack : s.ackFrameStep f = s := by simp only [State.ackFrameStep, hs]
  have notEval : ∀ c, s.receivedFrame c f = s := fun c => if_neg (by simp [hs])
  simp only [List.mem_cons, List.not_mem_nil, or_false] at row
  obtain rfl | rfl | rfl | rfl | rfl | rfl := row
  · exact (command _).imp (congrArg _) (congrArg _)
  · exact (command _).imp (congrArg _) (congrArg _)
  · exact (command _).imp (congrArg _) (congrArg _)
  · exact .inl (congrArg _ ack)
  · exact .inl (congrArg _ (notEval _))
  · exact .inl (congrArg _ (notEval _))

/-- In EVAL every row takes OPR's branch (R125). -/
theorem exec_frameRow_of_eval (hs : s.seq = .eval) : ∃ rx, exec i s = .next (s.evalBranch rx) := by
  have command : ∀ c, s.commandFrame c f = s.receive c f := fun c => by simp only [State.commandFrame, hs]
  have ack : s.ackFrameStep f = s.receive Config.cmdAck f := by simp only [State.ackFrameStep, hs]
  have received : ∀ c, s.receivedFrame c f = s.receive c f := fun c => if_pos hs
  simp only [List.mem_cons, List.not_mem_nil, or_false] at row
  obtain rfl | rfl | rfl | rfl | rfl | rfl := row
  · exact ⟨_, congrArg _ (command _)⟩
  · exact ⟨_, congrArg _ (command _)⟩
  · exact ⟨_, congrArg _ (command _)⟩
  · exact ⟨_, congrArg _ ack⟩
  · exact ⟨_, congrArg _ (received _)⟩
  · exact ⟨_, congrArg _ (received _)⟩

/-- In TX_ACK the ACK row goes out when it is the ACK frame, and no other frame has an effect (R132; log 13). -/
theorem exec_frameRow_of_txAck (hs : s.seq = .txAck) : exec i s = .next s ∨ exec i s = .next s.sendAck := by
  have ack : s.ackFrameStep f = s ∨ s.ackFrameStep f = s.sendAck := by
    simp only [State.ackFrameStep, hs]
    split
    · exact .inr rfl
    · exact .inl rfl
  have command : ∀ c, s.commandFrame c f = s := fun c => by simp only [State.commandFrame, hs]
  have notEval : ∀ c, s.receivedFrame c f = s := fun c => if_neg (by simp [hs])
  simp only [List.mem_cons, List.not_mem_nil, or_false] at row
  obtain rfl | rfl | rfl | rfl | rfl | rfl := row
  · exact .inl (congrArg _ (command _))
  · exact .inl (congrArg _ (command _))
  · exact .inl (congrArg _ (command _))
  · exact ack.imp (congrArg _) (congrArg _)
  · exact .inl (congrArg _ (notEval _))
  · exact .inl (congrArg _ (notEval _))

/-- A FRAME row is the TX_CMD step, EVAL's branch or the TX_ACK step in that state, or has no effect (log 13). -/
theorem exec_frameRow_cases :
    exec i s = .next s ∨ (s.seq = .txCmd ∧ exec i s = .next s.sendCommand) ∨
      (s.seq = .eval ∧ ∃ rx, exec i s = .next (s.evalBranch rx)) ∨ (s.seq = .txAck ∧ exec i s = .next s.sendAck) := by
  by_cases inTxCmd : s.seq = .txCmd
  · rcases exec_frameRow_of_txCmd row inTxCmd with h | h
    · exact .inl h
    · exact .inr (.inl ⟨inTxCmd, h⟩)
  by_cases inEval : s.seq = .eval
  · exact .inr (.inr (.inl ⟨inEval, exec_frameRow_of_eval row inEval⟩))
  by_cases inTxAck : s.seq = .txAck
  · rcases exec_frameRow_of_txAck row inTxAck with h | h
    · exact .inl h
    · exact .inr (.inr (.inr ⟨inTxAck, h⟩))
  exact .inl (exec_frame_elsewhere f cmd inTxCmd inEval inTxAck i row)

end FrameRows

/-- Settles O25: the four effects of `exec_frameRow_cases`, each by its frame. -/
theorem wireCommandFrame : Obligations.WireCommandFrame := by
  intro s f cmd i row
  rcases exec_frameRow_cases row (s := s) with h | ⟨hs, h⟩ | ⟨hs, rx, h⟩ | ⟨hs, h⟩
  · exact ⟨s, h, fun _ => rfl, rfl, rfl, rfl, fun _ => ⟨rfl, rfl⟩, fun _ _ => rfl, fun _ _ _ => rfl⟩
  · refine ⟨_, h, by simp, ?_, by simp, by simp, by simp [hs], by simp [hs], by simp [hs]⟩
    apply State.ext_fields <;> simp
  · refine ⟨_, h, by simp, ?_, by simp, by simp, by simp, by simp, by simp [hs]⟩
    apply State.ext_fields <;> simp
  · refine ⟨_, h, by simp, ?_, by simp, by simp, by simp, by simp [hs], by simp [hs]⟩
    apply State.ext_fields <;> simp

/-- Where an exhausted loop leads: INIT to its next run while it has one, every other loop to its end (R168). -/
theorem loopExhausted_eq {s : State} (hop : s.opr ≠ .poll) :
    s.loopExhausted =
      if s.opr = .init ∧ (s.iatt < s.par.initAttempts ∨ s.par.delayAfterFinal = true) then s.enterWait .waitInitRetry
      else s.finish 0x00 := by
  cases h : s.opr <;> simp_all [State.loopExhausted, State.resetRunFailed]

/-- Settles O24: `attempt_failed` waits for the next attempt or hands over to `loop_exhausted`. -/
theorem failedAttemptRules : Obligations.FailedAttemptRules := by
  intro s hop
  rw [State.attemptFailed, loopExhausted_eq hop]
  simp only [Bool.or_eq_true, decide_eq_true_eq]
  rfl

end Sys2Proof.Machine

/-! The steps of the machine, one equation per act and per sequencer state (10_state.md R20, R23, 41_exchange.md R121 to R126). -/

namespace Sys2Proof.Machine

/-- The command frame of an operation is that operation's fixed frame (R75, R76, R78, R121). -/
theorem encode_commandInstr (op : HostOp) : encode (commandInstr op) = frameFor op := by
  cases op <;> decide +kernel

theorem encode_ackInstr : encode ackInstr = ackFrame := by decide +kernel

theorem decode_frameFor (op : HostOp) : decode .wire (frameFor op) = .ok (commandInstr op) := by
  rw [← encode_commandInstr]
  cases op <;> exact encodeThenDecode _ .wire (by decide) rfl

theorem decode_ackFrame : decode .wire ackFrame = .ok ackInstr := by
  rw [← encode_ackInstr]
  exact encodeThenDecode _ .wire (by decide) rfl

/-- With RST released a write to OPREQ runs the row its byte decodes to (42_operations.md R150). -/
theorem step_of_opreqWrite {s u : State} {b : Byte} (act : s.nextAct = (.host (.write 0 b), u)) (running : u.rst = false) :
    step s = exec (decodeOpreq b) u := by
  simp only [step, State.fetch, act, State.actFetch, running, Bool.false_eq_true, if_false, State.hostFetch, if_true,
    Fetched.outcome]

theorem step_of_hostRead {s u : State} {off : BitVec 2} (act : s.nextAct = (.host (.read off), u)) (running : u.rst = false) :
    step s = .next (u.hostRead off) := by
  simp only [step, State.fetch, act, State.actFetch, running, Bool.false_eq_true, if_false, State.hostFetch, Fetched.outcome]

/-- A write to any other offset is ignored (10_state.md R29, R30, R32). -/
theorem step_of_otherWrite {s u : State} {off : BitVec 2} {b : Byte} (act : s.nextAct = (.host (.write off b), u))
    (running : u.rst = false) (other : off ≠ 0) : step s = .next u := by
  simp only [step, State.fetch, act, State.actFetch, running, Bool.false_eq_true, if_false, State.hostFetch, if_neg other,
    Fetched.outcome]

section BlockStep

variable {s u : State} (act : s.nextAct = (.block, u)) (running : u.rst = false)
include act running

theorem step_of_idle (hs : u.seq = .idle) : step s = .next u := by
  simp only [step_of_block act running, State.blockFetch, hs, Fetched.outcome]

theorem step_of_opening (hs : u.seq = .opening) : step s = .next u.openStep := by
  simp only [step_of_block act running, State.blockFetch, hs, Fetched.outcome]

theorem step_of_txCmd (hs : u.seq = .txCmd) : step s = .next u.sendCommand := by
  simp only [step_of_block act running, State.blockFetch, hs, Fetched.outcome, exec_commandInstr hs]

theorem step_of_txAck (hs : u.seq = .txAck) : step s = .next u.sendAck := by
  simp only [step_of_block act running, State.blockFetch, hs, Fetched.outcome, exec_ackInstr hs]

/-- A decoded response runs at the state the VALIDATE row answers (R125). -/
theorem step_of_eval_decoded (hs : u.seq = .eval) {i : Instr} (h : decode .wire u.response = .ok i) :
    step s = exec i u.runValidate := by
  have decoded : decodeFrame u.response = .ok i := h
  simp only [step_of_block act running, State.blockFetch, hs, State.evalFetch, decoded, Fetched.outcome]

theorem step_of_waitRetry (hs : u.seq = .waitRetry) : step s = .next (u.waitStep u.par.tRetry u.exitRetry) := by
  simp only [step_of_block act running, State.blockFetch, hs, Fetched.outcome]

theorem step_of_waitResetSettle (hs : u.seq = .waitResetSettle) :
    step s = .next (u.waitStep u.par.tResetSettle u.exitResetSettle) := by
  simp only [step_of_block act running, State.blockFetch, hs, Fetched.outcome]

theorem step_of_waitInitRetry (hs : u.seq = .waitInitRetry) :
    step s = .next (u.waitStep u.par.tInitRetry u.exitInitRetry) := by
  simp only [step_of_block act running, State.blockFetch, hs, Fetched.outcome]

theorem step_of_waitInitSettle (hs : u.seq = .waitInitSettle) :
    step s = .next (u.waitStep u.par.tInitSettle u.exitInitSettle) := by
  simp only [step_of_block act running, State.blockFetch, hs, Fetched.outcome]

end BlockStep

/-- Settles O26: what the step runs is what the decoder answers, `decode_frameFor` and `decode_ackFrame` for the fixed frames. -/
theorem stepRunsDecodedInstruction : Obligations.StepRunsDecodedInstruction := by
  intro s u e i act running
  refine ⟨?opreq, ?eval, ?command, ?ack⟩
  case opreq =>
    rintro b rfl h
    cases h
    exact step_of_opreqWrite act running
  case eval =>
    rintro rfl hs h
    exact ⟨rfl, step_of_eval_decoded act running hs h⟩
  case command =>
    rintro rfl hs h
    cases (decode_frameFor u.opr).symm.trans h
    rw [exec_commandInstr hs, step_of_txCmd act running hs]
  case ack =>
    rintro rfl hs h
    cases decode_ackFrame.symm.trans h
    rw [exec_ackInstr hs, step_of_txAck act running hs]

/-- An attempt has no cause to fail exactly on a validated ACK (60_exceptions.md R181). -/
theorem attemptCause_none_iff (b : List Byte) :
    attemptCause b = none ↔ validate b = true ∧ byteAt b 3 = Config.cmdAck := by
  rw [validate_iff, attemptCause]
  constructor
  · intro h
    repeat' split at h
    all_goals simp_all
  · rintro ⟨⟨fiveBytes, isSync, len, crc⟩, ack⟩
    have notEmpty : ¬ b.length = 0 := by omega
    have notShort : ¬ b.length < 5 := by omega
    simp [notEmpty, notShort, isSync, len, crc, ack]

/-- The same over the cells of RB. -/
theorem attemptCause_response_none_iff (s : State) :
    attemptCause s.response = none ↔ validate s.response = true ∧ s.rb.read 3 = 0x00 := by
  rw [attemptCause_none_iff]
  refine and_congr_right fun valid => ?_
  obtain ⟨fiveBytes, -⟩ := (validate_response_iff s).1 valid
  rw [byteAt_response (by omega)]

/-- Without an ACK every loop's attempt fails (R159, R160). -/
theorem evalBranch_of_noAck {s : State} (hop : s.opr ≠ .poll) {rx : Option Received}
    (noAck : ∀ r, rx = some r → r.cmd ≠ Config.cmdAck) : s.evalBranch rx = s.attemptFailed := by
  rcases evalBranch_cases s rx with ⟨-, -, r, isSome, ack⟩ | ⟨-, -, r, isSome, ack⟩ | ⟨h, -⟩ | ⟨isPoll, -⟩ | ⟨isPoll, -⟩
  · exact absurd ack (noAck r isSome)
  · exact absurd ack (noAck r isSome)
  · exact h
  · exact absurd isPoll hop
  · exact absurd isPoll hop

/-- A failed attempt does not depend on what `validate` wrote. -/
theorem attemptFailed_runValidate {s : State} (hop : s.opr ≠ .poll) :
    { s.runValidate.attemptFailed with acc := s.acc, codec := s.codec } = s.attemptFailed := by
  rw [failedAttemptRules s hop, failedAttemptRules s.runValidate (by simpa using hop)]
  simp only [runValidate_frame]
  split_ifs <;> (apply State.ext_fields <;> simp)

/-- Settles O27: without a cause the response is a validated ACK and leads on, with one the attempt fails. -/
theorem attemptFailsExactlyOnACause : Obligations.AttemptFailsExactlyOnACause := by
  intro s u act running hs hop
  refine ⟨attemptCause_response_none_iff u, _, step_of_eval act running hs, ?_⟩
  have hop' : u.runValidate.opr ≠ .poll := by simpa using hop
  by_cases cause : attemptCause u.response = none
  · rw [if_neg (not_not_intro cause)]
    obtain ⟨valid, ack⟩ := (attemptCause_response_none_iff u).1 cause
    rw [responseSeen_of_valid valid]
    by_cases start : u.opr = .start
    · rw [if_pos start, evalBranch_of_start (by simpa using start), evalStart_of_ack ack]
      apply State.ext_fields <;> simp
    · have resets : u.opr = .init ∨ u.opr = .reset := by cases h : u.opr <;> simp_all
      rw [if_neg start, evalBranch_of_init_or_reset (by simpa using resets), evalReset_of_ack ack]
      apply State.ext_fields <;> simp [State.stamp]
  · rw [if_pos cause, evalBranch_of_noAck hop', attemptFailed_runValidate hop]
    intro r seen ack
    by_cases valid : validate u.response = true
    · rw [responseSeen_of_valid valid, Option.some.injEq] at seen
      exact cause ((attemptCause_response_none_iff u).2 ⟨valid, by rw [← seen] at ack; exact ack⟩)
    · simp [responseSeen_of_invalid (Bool.not_eq_true _ ▸ valid)] at seen

/-- How a run of INIT's RESET loop starts, and with MAX_RETRY 0 where it leads at once (R167, R168). -/
theorem startResetRun_of_init {s : State} (hop : s.opr = .init) :
    s.startResetRun =
      if s.par.maxRetry ≠ 0 then { s with att := 0, seq := .txCmd }
      else if s.iatt < s.par.initAttempts ∨ s.par.delayAfterFinal = true then
        { s with att := 0, t0 := s.stamp, seq := .waitInitRetry }
      else State.finish { s with att := 0 } 0x00 := by
  rcases startResetRun_cases s with ⟨retries, h⟩ | ⟨noRetries, h⟩
  · rw [if_pos retries, h]
  · rw [if_neg (not_not_intro noRetries), h]
    simp only [State.resetRunFailed, hop, Bool.or_eq_true, decide_eq_true_eq]
    rfl

/-- Settles O29: `openStep`, and the start of the first run by `startResetRun_of_init`. -/
theorem openStepRule : Obligations.OpenStepRule := by
  intro s u act running hs hop
  rw [step_of_opening act running hs, State.openStep, startResetRun_of_init (by simpa using hop)]
  rfl

/-- A wait step, its early case first (R126). -/
theorem waitStep_eq (s : State) (d : Nat) (exit : State) : s.waitStep d exit = if s.elapsed < d then s else exit := by
  simp only [State.waitStep, ← not_lt, ite_not]

/-- After RESET's settling INIT settles once more, and RESET is over (R164). -/
theorem exitResetSettle_eq {s : State} (hop : s.opr = .init ∨ s.opr = .reset) :
    s.exitResetSettle = if s.opr = .init then s.enterWait .waitInitSettle else s.finish 0x01 := by
  rcases hop with hop | hop <;> simp [State.exitResetSettle, hop]

/-- Settles O32: each step is a wait and an exit; the exits end in `loopExhausted_eq` and `startResetRun_of_init`. -/
theorem waitStepRules : Obligations.WaitStepRules := by
  rintro s u act running ⟨initOnly, initOrReset, notPoll, -⟩
  refine ⟨fun hs => ?retry, fun hs => ?resetSettle, fun hs => ?initRetry, fun hs => ?initSettle⟩
  case retry =>
    rw [step_of_waitRetry act running hs, waitStep_eq, State.exitRetry, loopExhausted_eq (notPoll hs)]
    rfl
  case resetSettle =>
    rw [step_of_waitResetSettle act running hs, waitStep_eq, exitResetSettle_eq (initOrReset hs)]
    rfl
  case initRetry =>
    have hop : u.opr = .init := initOnly (by simp [hs])
    rw [step_of_waitInitRetry act running hs, waitStep_eq, State.exitInitRetry, startResetRun_of_init (by simpa using hop)]
    rfl
  case initSettle =>
    rw [step_of_waitInitSettle act running hs, waitStep_eq]
    rfl

/-- STATUS as a number: BUSY 1, DONE 2, BADOP 4, OPENED 8 (R29). -/
theorem Status.toByte_eq_sum (t : Status) :
    t.toByte = (if t.busy then 0x01 else 0x00) + (if t.done then 0x02 else 0x00) + (if t.badop then 0x04 else 0x00) +
      (if t.opened then 0x08 else 0x00) := by
  obtain ⟨busy, done, badop, opened⟩ := t
  revert busy done badop opened
  decide

/-- Settles O33: a read is `hostRead`, and a write to an offset other than 0 runs no row. -/
theorem hostRegisterMap : Obligations.HostRegisterMap := by
  intro s u off b running
  constructor
  · intro act
    rw [step_of_hostRead act running, ← Status.toByte_eq_sum]
    rfl
  · exact fun act other => step_of_otherWrite act running other

/-- Settles O34: asserting, keeping and releasing RST is `resetBlock`, whose frame names R38's values. -/
theorem resetInputRule : Obligations.ResetInputRule := by
  intro s u level act
  constructor
  · intro resets
    have reset : step s = .next { u.resetBlock with rst := level } := by
      have taken : (level || u.rst) = true := by simpa using resets
      simp only [step, State.fetch, act, State.actFetch, taken, if_true, Fetched.outcome]
    exact ⟨_, reset, rfl, rfl, rfl, rfl, rfl, Status.toByte_of_noFlags rfl rfl rfl rfl, rfl, rfl, rfl, rfl, rfl, rfl, rfl⟩
  · rintro rfl released
    simp only [step, State.fetch, act, State.actFetch, released, Bool.or_self, Bool.false_eq_true, if_false, Fetched.outcome]

/-- The subtraction of R191 modulo M: what T0 lost by reduction is a multiple of M. -/
theorem add_compl_mod_mod (n e M : Nat) (pos : 0 < M) : (n + e + (M - n % M % M)) % M = e % M := by
  have below : n % M < M := Nat.mod_lt n pos
  have multiple : n + e + (M - n % M % M) = e + M * (n / M + 1) := by
    rw [Nat.mod_mod, Nat.mul_add, Nat.mul_one]
    have := Nat.div_add_mod n M
    omega
  rw [multiple, Nat.add_mul_mod_self_left]

/-- Settles O36: the time since n, reduced modulo 2^TW. -/
theorem elapsedIsTrueTime : Obligations.ElapsedIsTrueTime := by
  intro s n hn past
  have reduced : s.elapsed = (s.now - n) % 2 ^ s.par.tw := by
    obtain ⟨e, later⟩ := Nat.exists_eq_add_of_le past
    rw [State.elapsed, hn, later, add_compl_mod_mod n e _ (Nat.two_pow_pos _), Nat.add_sub_cancel_left]
  exact ⟨reduced, fun short => reduced.trans (Nat.mod_eq_of_lt short)⟩

end Sys2Proof.Machine

/-! What a step keeps of RB and of the control part (10_state.md R23, R29, 20_memory.md R50, R68). -/

namespace Sys2Proof.Machine

/-- Settles O38: only a byte stored in COLLECT writes RB, inside the space, and RST empties it. -/
theorem stepKeepsMemoryCanonical : Obligations.StepKeepsMemoryCanonical := by
  intro s t ok h
  apply step_elim h rfl
  case store =>
    intro b q room _ _ _ _
    exact Memory.wf_write (by simpa [State.memoryOk] using ok) room
  case reset => exact fun _ _ _ => rfl
  case held => exact fun _ => rfl
  case heldRead => exact fun _ _ => rfl
  -- Every other next state is made by operations whose frames keep RB.
  all_goals
    intros
    simpa [State.memoryOk] using ok

/-! ControlOk looks at SEQ, OPR, BUSY, DONE and RLEN only. -/

theorem State.ControlOk.congr {s t : State} (ok : s.ControlOk) (seq : t.seq = s.seq) (opr : t.opr = s.opr) (rlen : t.rlen = s.rlen)
    (busy : t.status.busy = s.status.busy) (done : t.status.done = s.status.done) : t.ControlOk := by
  constructor
  · rw [busy, seq]; exact ok.busy
  · rw [busy, done]; exact ok.done
  · simpa only [State.pairOk, seq, opr] using ok.pair
  · rw [seq, rlen]; exact ok.filling
  · rw [seq, rlen]; exact ok.full

theorem State.ControlOk.nextAct {s : State} (ok : s.ControlOk) : s.nextAct.2.ControlOk :=
  ok.congr (by simp) (by simp) (by simp) (by simp) (by simp)

theorem controlOk_of_idle {t : State} (idle : t.seq = .idle) (busy : t.status.busy = false) : t.ControlOk := by
  constructor <;> simp [State.pairOk, idle, busy]

theorem finish_controlOk (s : State) (v : Byte) : (s.finish v).ControlOk := controlOk_of_idle rfl rfl

/-- A running block is legal when SEQ fits OPR and RLEN fits SEQ. -/
theorem controlOk_of_running {t : State} (away : t.seq ≠ .idle) (busy : t.status.busy = true) (done : t.status.done = false)
    (pair : t.pairOk) (filling : t.seq = .collect → t.rlen.val < 16) (full : t.seq = .drain → t.rlen.val = 16) :
    t.ControlOk :=
  ⟨by simp [busy, away], fun _ => done, pair, filling, full⟩

section Running

variable {s : State} (ok : s.ControlOk) (running : s.seq ≠ .idle)
include ok running

/-- A legal running block moved to another running state, other than COLLECT and DRAIN. -/
theorem State.ControlOk.move {t : State} (status : t.status = s.status) (away : t.seq ∉ [.idle, .collect, .drain])
    (pair : t.pairOk) : t.ControlOk := by
  simp only [List.mem_cons, List.not_mem_nil, or_false, not_or] at away
  obtain ⟨notIdle, notCollect, notDrain⟩ := away
  have busy : s.status.busy = true := ok.busy.2 running
  exact controlOk_of_running notIdle (status ▸ busy) (status ▸ ok.done busy) pair (absurd · notCollect) (absurd · notDrain)

theorem resetRunFailed_controlOk : s.resetRunFailed.ControlOk := by
  rcases resetRunFailed_cases s with ⟨h, -⟩ | ⟨h, hop⟩ | ⟨h, -⟩ <;> rw [h]
  · exact finish_controlOk s 0x00
  · exact ok.move running rfl (by simp) (by simp [State.pairOk, hop])
  · exact ok

theorem loopExhausted_controlOk : s.loopExhausted.ControlOk := by
  rcases loopExhausted_cases s with ⟨h, -⟩ | ⟨h, hop⟩ | ⟨h, -⟩ <;> rw [h]
  · exact finish_controlOk s 0x00
  · exact ok.move running rfl (by simp) (by simp [State.pairOk, hop])
  · exact ok

theorem attemptFailed_controlOk (hop : s.opr ≠ .poll) : s.attemptFailed.ControlOk := by
  rcases attemptFailed_cases s with ⟨h, -⟩ | ⟨-, h⟩ <;> rw [h]
  · exact ok.move running rfl (by simp) (by simp [State.pairOk, hop])
  · exact loopExhausted_controlOk ok running

theorem startResetRun_controlOk : s.startResetRun.ControlOk := by
  rcases startResetRun_cases s with ⟨-, h⟩ | ⟨-, h⟩ <;> rw [h]
  · exact ok.move running rfl (by simp) (by simp [State.pairOk])
  · exact resetRunFailed_controlOk (ok.congr rfl rfl rfl rfl rfl) running

theorem evalBranch_controlOk (rx : Option Received) : (s.evalBranch rx).ControlOk := by
  rcases evalBranch_cases s rx with ⟨h, hop, -⟩ | ⟨h, hop, -⟩ | ⟨h, hop⟩ | ⟨-, d, h⟩ | ⟨hop, d, r, h, -⟩ <;> rw [h]
  · exact ok.move running rfl (by simp) (by simp [State.pairOk, hop])
  · exact ok.move running rfl (by simp) (by simp [State.pairOk, hop])
  · exact attemptFailed_controlOk ok running hop
  · exact finish_controlOk _ _
  · exact ok.move running rfl (by simp) (by simp [State.pairOk, hop])

theorem exitRetry_controlOk : s.exitRetry.ControlOk := by
  rcases exitRetry_cases s with ⟨-, h⟩ | ⟨-, h⟩ <;> rw [h]
  · exact ok.move running rfl (by simp) (by simp [State.pairOk])
  · exact loopExhausted_controlOk ok running

theorem exitResetSettle_controlOk : s.exitResetSettle.ControlOk := by
  rcases exitResetSettle_cases s with ⟨hop, h⟩ | ⟨-, h⟩ | h <;> rw [h]
  · exact ok.move running rfl (by simp) (by simp [State.pairOk, hop])
  · exact finish_controlOk s 0x01
  · exact ok

theorem exitInitRetry_controlOk : s.exitInitRetry.ControlOk := by
  rcases exitInitRetry_cases s with ⟨-, h⟩ | ⟨-, h⟩ <;> rw [h]
  · exact startResetRun_controlOk (ok.congr rfl rfl rfl rfl rfl) running
  · exact finish_controlOk s 0x00

theorem openStep_controlOk : s.openStep.ControlOk := by
  rcases openStep_cases s with ⟨-, h⟩ | ⟨-, h⟩ <;> rw [h]
  · exact finish_controlOk _ 0x00
  · exact startResetRun_controlOk (ok.congr rfl rfl rfl rfl rfl) running

theorem sendCommand_controlOk : s.sendCommand.ControlOk := by
  cases ready : s.txReady with
  | false => rwa [sendCommand_of_notReady ready]
  | true =>
    have busy : s.status.busy = true := ok.busy.2 running
    rw [sendCommand_of_ready ready]
    exact controlOk_of_running (by simp) busy (ok.done busy) (by simp [State.pairOk]) (by simp) (by simp)

/-- The sixteenth byte leaves COLLECT for DRAIN (R68, R123). -/
theorem store_controlOk (b : Byte) (q : List Byte) (room : s.rlen.val < 16) : (s.store b q room).ControlOk := by
  have busy : s.status.busy = true := ok.busy.2 running
  rcases store_seq_cases s b q room with ⟨full, h⟩ | ⟨filling, h⟩
  · exact controlOk_of_running (by simp [h]) busy (ok.done busy) (by simp [State.pairOk, h]) (by simp [h]) fun _ => full
  · exact controlOk_of_running (by simp [h]) busy (ok.done busy) (by simp [State.pairOk, h]) (fun _ => filling) (by simp [h])

theorem drainStep_controlOk : s.drainStep.ControlOk := by
  rcases drainStep_cases s with h | ⟨q, h⟩ <;> rw [h]
  · exact ok.move running rfl (by simp) (by simp [State.pairOk])
  · exact ok.congr rfl rfl rfl rfl rfl

end Running

theorem sendAck_controlOk {s : State} (ok : s.ControlOk) : s.sendAck.ControlOk := by
  rcases sendAck_cases s with ⟨-, -, h⟩ | h <;> rw [h]
  · exact finish_controlOk _ _
  · exact ok

theorem begin_controlOk (s : State) (op : HostOp) : (s.begin op).ControlOk := by
  rcases begin_cases s op with ⟨hop, h⟩ | ⟨-, -, h⟩ | ⟨-, -, h⟩ <;> rw [h]
  · exact controlOk_of_running (by simp) rfl rfl (by simp [State.pairOk, hop]) (by simp) (by simp)
  · exact controlOk_of_running (by simp) rfl rfl (by simp [State.pairOk]) (by simp) (by simp)
  · exact finish_controlOk _ _

theorem request_controlOk {s : State} (ok : s.ControlOk) (op : HostOp) : (s.request op).ControlOk := by
  rcases request_cases s op with ⟨-, h⟩ | ⟨-, h | h⟩ <;> rw [h]
  · exact ok.congr rfl rfl rfl rfl rfl
  · exact begin_controlOk s op
  · exact begin_controlOk _ op

theorem requestReserved_controlOk {s : State} (ok : s.ControlOk) : s.requestReserved.ControlOk := by
  rcases requestReserved_cases s with h | h <;> rw [h] <;> exact ok.congr rfl rfl rfl rfl rfl

/-- Settles O39: each next state of `step_elim` by the lemma on its operation. -/
theorem stepKeepsControlLegal : Obligations.StepKeepsControlLegal := by
  intro s t ok h
  have taken := ok.nextAct
  generalize hu : s.nextAct.2 = u at taken
  have running {w : Seq} (hs : u.seq = w) (hw : w ≠ .idle) : u.seq ≠ .idle := hs ▸ hw
  apply step_elim h hu
  case reset => exact fun _ _ _ => controlOk_of_idle rfl rfl
  case held => exact fun _ => controlOk_of_idle rfl rfl
  case heldRead => exact fun _ _ => controlOk_of_idle rfl rfl
  case transport => exact fun _ => taken.congr rfl rfl rfl rfl rfl
  case peripheral => exact fun _ _ => taken.congr rfl rfl rfl rfl rfl
  case clock => exact fun _ => taken.congr rfl rfl rfl rfl rfl
  case same => exact fun _ => taken
  case read => exact fun _ _ => taken.congr rfl rfl rfl rfl rfl
  case request => exact fun _ op _ _ => request_controlOk taken op
  case reserved => exact fun _ _ _ => requestReserved_controlOk taken
  case opening => exact fun _ _ hs => openStep_controlOk taken (running hs (by decide))
  case command => exact fun _ _ hs => sendCommand_controlOk taken (running hs (by decide))
  case deadline =>
    exact fun _ _ hs => taken.move (running hs (by decide)) rfl (by simp) (by simp [State.pairOk])
  case store => exact fun b q room _ _ hs _ => store_controlOk taken (running hs (by decide)) b q room
  case drain => exact fun _ _ hs => drainStep_controlOk taken (running hs (by decide))
  case eval =>
    intro _ _ hs
    have validated : u.runValidate.ControlOk := taken.congr (by simp) (by simp) (by simp) (by simp) (by simp)
    exact evalBranch_controlOk validated (by simpa using running hs (by decide)) u.responseSeen
  case waitRetry => exact fun _ _ hs => exitRetry_controlOk taken (running hs (by decide))
  case waitResetSettle => exact fun _ _ hs => exitResetSettle_controlOk taken (running hs (by decide))
  case waitInitRetry => exact fun _ _ hs => exitInitRetry_controlOk taken (running hs (by decide))
  case waitInitSettle => exact fun _ _ _ => finish_controlOk u 0x01
  case ack => exact fun _ _ _ => sendAck_controlOk taken

end Sys2Proof.Machine

/-! What a step keeps of the counters ATT, IATT and T0 (10_state.md R25 to R27, 42_operations.md R172). -/

namespace Sys2Proof.Machine

/-- CountersOk looks at SEQ, OPR, ATT, IATT, T0 and the parameters only. -/
theorem State.CountersOk.congr {s t : State} (ok : s.CountersOk) (seq : t.seq = s.seq) (opr : t.opr = s.opr)
    (att : t.att = s.att) (iatt : t.iatt = s.iatt) (t0 : t.t0 = s.t0) (par : t.par = s.par) : t.CountersOk := by
  obtain ⟨att', more, spent, iatt', started, t0', fresh, once⟩ := ok
  constructor <;> simpa only [seq, opr, att, iatt, t0, par]

theorem State.CountersOk.nextAct {s : State} (ok : s.CountersOk) : s.nextAct.2.CountersOk :=
  ok.congr (by simp) (by simp) (by simp) (by simp) (by simp) (by simp)

theorem stamp_lt (s : State) : s.stamp < 2 ^ s.par.tw := Nat.mod_lt _ (Nat.two_pow_pos _)

/-- An operation that ends keeps its counters. -/
theorem finish_countersOk {s : State} (ok : s.CountersOk) (v : Byte) : (s.finish v).CountersOk := by
  constructor
  case att => exact ok.att
  case iatt => exact ok.iatt
  case t0 => exact ok.t0
  all_goals simp

/-- A running block whose counters are kept, moved to a state that asks nothing more of them. -/
theorem State.CountersOk.move {s t : State} (ok : s.CountersOk) (source : s.seq ∉ [.idle, .opening, .txCmd])
    (target : t.seq ∉ [.opening, .txCmd, .waitInitRetry]) (opr : t.opr = s.opr) (att : t.att = s.att) (iatt : t.iatt = s.iatt)
    (t0 : t.t0 < 2 ^ t.par.tw) (par : t.par = s.par) : t.CountersOk := by
  simp only [List.mem_cons, List.not_mem_nil, or_false, not_or] at source target
  obtain ⟨running, opened, sent⟩ := source
  obtain ⟨notOpening, notTxCmd, notRetry⟩ := target
  constructor
  case att => rw [opr, att, par]; exact ok.att
  case more => exact fun _ hs => absurd hs notTxCmd
  case spent => exact fun hs => absurd hs notRetry
  case iatt => rw [opr, iatt, par]; exact ok.iatt
  case started => rw [opr, iatt]; exact fun hop _ _ => ok.started hop running opened
  case t0 => exact t0
  case fresh => exact fun hs => absurd hs notOpening
  case once =>
    rw [opr, att, if_neg notTxCmd]
    exact fun hop _ => (ok.once hop running).trans (if_neg sent)

/-- INIT waits for its next run when the attempts of this one are used up (R165, R168). -/
theorem enterWait_initRetry_countersOk {s : State} (hop : s.opr = .init) (spent : s.att = s.par.maxRetry) (started : 1 ≤ s.iatt)
    (limit : s.iatt ≤ s.par.initAttempts) : (s.enterWait .waitInitRetry).CountersOk := by
  constructor
  case att => exact fun _ => spent.le
  case spent => exact fun _ => spent
  case iatt => exact fun _ => limit
  case started => exact fun _ _ _ => started
  case t0 => exact stamp_lt s
  all_goals simp [hop]

section Loop

variable {s : State} (ok : s.CountersOk) (source : s.seq ∉ [.idle, .opening, .txCmd])
include ok source

/-- The loop is left only when its attempts are used up (R168). -/
theorem loopExhausted_countersOk (spent : s.par.maxRetry ≤ s.att) : s.loopExhausted.CountersOk := by
  simp only [List.mem_cons, List.not_mem_nil, or_false, not_or] at source
  rcases loopExhausted_cases s with ⟨h, -⟩ | ⟨h, hop⟩ | ⟨h, -⟩ <;> rw [h]
  · exact finish_countersOk ok 0x00
  · have att : s.att = s.par.maxRetry := (ok.att (by simp [hop])).antisymm spent
    exact enterWait_initRetry_countersOk hop att (ok.started hop source.1 source.2.1) (ok.iatt hop)
  · exact ok

theorem attemptFailed_countersOk : s.attemptFailed.CountersOk := by
  rcases attemptFailed_cases s with ⟨h, -⟩ | ⟨spent, h⟩ <;> rw [h]
  · exact ok.move source (by simp) rfl rfl rfl (stamp_lt s) rfl
  · exact loopExhausted_countersOk ok source spent

theorem evalBranch_countersOk (rx : Option Received) : (s.evalBranch rx).CountersOk := by
  rcases evalBranch_cases s rx with ⟨h, -⟩ | ⟨h, -⟩ | ⟨h, -⟩ | ⟨-, d, h⟩ | ⟨-, d, r, h, -⟩ <;> rw [h]
  · exact ok.move source (by simp) rfl rfl rfl (stamp_lt s) rfl
  · exact ok.move source (by simp) rfl rfl rfl ok.t0 rfl
  · exact attemptFailed_countersOk ok source
  · exact finish_countersOk (s := s.showBill d) (ok.congr rfl rfl rfl rfl rfl rfl) 0x00
  · exact ok.move source (by simp) rfl rfl rfl ok.t0 rfl

theorem exitResetSettle_countersOk : s.exitResetSettle.CountersOk := by
  rcases exitResetSettle_cases s with ⟨-, h⟩ | ⟨-, h⟩ | h <;> rw [h]
  · exact ok.move source (by simp) rfl rfl rfl (stamp_lt s) rfl
  · exact finish_countersOk ok 0x01
  · exact ok

/-- A retry has an attempt left, and POLL has none (R163, R172). -/
theorem exitRetry_countersOk (hop : s.opr ≠ .poll) : s.exitRetry.CountersOk := by
  simp only [List.mem_cons, List.not_mem_nil, or_false, not_or] at source
  rcases exitRetry_cases s with ⟨attemptLeft, h⟩ | ⟨spent, h⟩ <;> rw [h]
  · constructor
    case att => exact ok.att
    case more => exact fun _ _ => attemptLeft
    case iatt => exact ok.iatt
    case started => exact fun isInit _ _ => ok.started isInit source.1 source.2.1
    case t0 => exact ok.t0
    case once => exact fun isPoll => absurd isPoll hop
    all_goals simp
  · exact loopExhausted_countersOk ok (by simp [source]) spent

end Loop

/-- A run of INIT starts with ATT 0, and with MAX_RETRY 0 it is used up at once (R167). -/
theorem startResetRun_countersOk {s : State} (hop : s.opr = .init) (started : 1 ≤ s.iatt)
    (limit : s.iatt ≤ s.par.initAttempts) (t0 : s.t0 < 2 ^ s.par.tw) : s.startResetRun.CountersOk := by
  rcases startResetRun_cases s with ⟨retries, h⟩ | ⟨noRetries, h⟩ <;> rw [h]
  · constructor
    case more => exact fun _ _ => Nat.pos_of_ne_zero retries
    case iatt => exact fun _ => limit
    case started => exact fun _ _ _ => started
    case t0 => exact t0
    all_goals simp [hop]
  · rcases resetRunFailed_cases { s with att := 0 } with ⟨h, -⟩ | ⟨h, -⟩ | ⟨-, hop'⟩
    · rw [h]
      constructor
      case iatt => exact fun _ => limit
      case t0 => exact t0
      all_goals simp
    · rw [h]
      exact enterWait_initRetry_countersOk hop noRetries.symm started limit
    · simp [hop] at hop'

theorem exitInitRetry_countersOk {s : State} (ok : s.CountersOk) (hop : s.opr = .init) : s.exitInitRetry.CountersOk := by
  rcases exitInitRetry_cases s with ⟨runLeft, h⟩ | ⟨-, h⟩ <;> rw [h]
  · exact startResetRun_countersOk hop (Nat.le_add_left 1 _) runLeft ok.t0
  · exact finish_countersOk ok 0x00

/-- OPEN starts INIT's first run (R155). -/
theorem openStep_countersOk {s : State} (ok : s.CountersOk) (hop : s.opr = .init) : s.openStep.CountersOk := by
  rcases openStep_cases s with ⟨-, h⟩ | ⟨runs, h⟩ <;> rw [h]
  · exact finish_countersOk (s := s.markOpened) (ok.congr rfl rfl rfl rfl rfl rfl) 0x00
  · exact startResetRun_countersOk hop le_rfl (Nat.pos_of_ne_zero runs) ok.t0

/-- One more frame is out, which there was room for (R122). -/
theorem sendCommand_countersOk {s : State} (ok : s.CountersOk) (hs : s.seq = .txCmd) : s.sendCommand.CountersOk := by
  cases ready : s.txReady with
  | false => rwa [sendCommand_of_notReady ready]
  | true =>
    rw [sendCommand_of_ready ready]
    constructor
    case att => exact fun hop => ok.more hop hs
    case iatt => exact ok.iatt
    case started => exact fun hop _ _ => ok.started hop (by simp [hs]) (by simp [hs])
    case t0 => exact stamp_lt s
    case once =>
      intro hop _
      have unsent : s.att = 0 := (ok.once hop (by simp [hs])).trans (if_pos hs)
      simp [unsent]
    all_goals simp

theorem begin_countersOk {s : State} (t0 : s.t0 < 2 ^ s.par.tw) (op : HostOp) : (s.begin op).CountersOk := by
  rcases begin_cases s op with ⟨hop, h⟩ | ⟨notInit, pollOrRetries, h⟩ | ⟨-, -, h⟩ <;> rw [h]
  · constructor <;> simp [hop, t0]
  · constructor
    case more => exact fun notPoll _ => Nat.pos_of_ne_zero (pollOrRetries.resolve_left notPoll)
    case t0 => exact t0
    all_goals simp [notInit]
  · constructor <;> simp [t0]

theorem request_countersOk {s : State} (ok : s.CountersOk) (op : HostOp) : (s.request op).CountersOk := by
  rcases request_cases s op with ⟨-, h⟩ | ⟨-, h | h⟩ <;> rw [h]
  · exact ok.congr rfl rfl rfl rfl rfl rfl
  · exact begin_countersOk ok.t0 op
  · exact begin_countersOk (s := s.raiseFault .notOpened) ok.t0 op

theorem sendAck_countersOk {s : State} (ok : s.CountersOk) : s.sendAck.CountersOk := by
  rcases sendAck_cases s with ⟨-, -, h⟩ | h <;> rw [h]
  · exact finish_countersOk (s := s.txWrite ackFrame) (ok.congr rfl rfl rfl rfl rfl rfl) _
  · exact ok

theorem idle_cleared_countersOk {t : State} (idle : t.seq = .idle) (att : t.att = 0) (iatt : t.iatt = 0) (t0 : t.t0 = 0) :
    t.CountersOk := by
  constructor <;> simp [idle, att, iatt, t0]

/-- Settles O40: each next state of `step_elim` by the lemma on its operation; the control part says which operation can be in
the state. -/
theorem stepKeepsCountersInLimits : Obligations.StepKeepsCountersInLimits := by
  intro s t control ok h
  have taken := ok.nextAct
  have pair := control.nextAct.pair
  generalize hu : s.nextAct.2 = u at taken pair
  obtain ⟨initOnly, -, notPoll, -⟩ := pair
  apply step_elim h hu
  case reset => exact fun _ _ _ => idle_cleared_countersOk rfl rfl rfl rfl
  case held => exact fun _ => idle_cleared_countersOk rfl rfl rfl rfl
  case heldRead => exact fun _ _ => idle_cleared_countersOk rfl rfl rfl rfl
  case transport => exact fun _ => taken.congr rfl rfl rfl rfl rfl rfl
  case peripheral => exact fun _ _ => taken.congr rfl rfl rfl rfl rfl rfl
  case clock => exact fun _ => taken.congr rfl rfl rfl rfl rfl rfl
  case same => exact fun _ => taken
  case read => exact fun _ _ => taken.congr rfl rfl rfl rfl rfl rfl
  case request => exact fun _ op _ _ => request_countersOk taken op
  case reserved => exact fun _ _ _ => taken.congr (by simp) (by simp) (by simp) (by simp) (by simp) (by simp)
  case opening => exact fun _ _ hs => openStep_countersOk taken (initOnly (by simp [hs]))
  case command => exact fun _ _ hs => sendCommand_countersOk taken hs
  case deadline => exact fun _ _ hs => taken.move (by simp [hs]) (by simp) rfl rfl rfl taken.t0 rfl
  case store =>
    intro b q room _ _ hs _
    have target : (u.store b q room).seq ∉ [.opening, .txCmd, .waitInitRetry] := by
      rcases store_seq_cases u b q room with ⟨-, h⟩ | ⟨-, h⟩ <;> simp [h]
    exact taken.move (by simp [hs]) target rfl rfl rfl taken.t0 rfl
  case drain =>
    intro _ _ hs
    rcases drainStep_cases u with h | ⟨q, h⟩ <;> rw [h]
    · exact taken.move (by simp [hs]) (by simp) rfl rfl rfl taken.t0 rfl
    · exact taken.congr rfl rfl rfl rfl rfl rfl
  case eval =>
    intro _ _ hs
    have validated : u.runValidate.CountersOk :=
      taken.congr (by simp) (by simp) (by simp) (by simp) (by simp) (by simp)
    exact evalBranch_countersOk validated (by simp [hs]) u.responseSeen
  case waitRetry => exact fun _ _ hs => exitRetry_countersOk taken (by simp [hs]) (notPoll hs)
  case waitResetSettle => exact fun _ _ hs => exitResetSettle_countersOk taken (by simp [hs])
  case waitInitRetry => exact fun _ _ hs => exitInitRetry_countersOk taken (initOnly (by simp [hs]))
  case waitInitSettle => exact fun _ _ _ => finish_countersOk taken 0x01
  case ack => exact fun _ _ _ => sendAck_countersOk taken

end Sys2Proof.Machine

/-! Success and the response that backs it (41_exchange.md R132, 42_operations.md R159 to R161, R164, R166). -/

namespace Sys2Proof.Machine

/-- The evidence is kept, and a reported success rests on it: what `Obligations.StepKeepsEvidenceOfSuccess` asks of a step. -/
def EvidenceKept (s t : State) : Prop :=
  t.EvidenceOk ∧
  (s.seq ≠ .idle → t.seq = .idle → t.result ≠ 0x00 →
    t.status.done = true ∧ t.response = s.response ∧ validate t.response = true ∧
    ((t.result = 0x01 ∧ byteAt t.response 3 = 0x00 ∧
        (s.seq = .waitResetSettle ∨ s.seq = .waitInitSettle ∨ (s.seq = .txAck ∧ s.opr = .start))) ∨
      (t.result = byteAt t.response 4 ∧ byteAt t.response 3 = 0x81 ∧ s.seq = .txAck ∧ s.opr = .poll)))

/-- A state that neither waits to report a success nor reports one. -/
def State.Quiet (s : State) : Prop :=
  s.seq ∉ [.waitResetSettle, .waitInitSettle, .txAck] ∧ (s.seq = .idle → s.result = 0x00)

theorem evidenceOk_of_seq {t : State} (seq : t.seq ∉ [.waitResetSettle, .waitInitSettle, .txAck]) : t.EvidenceOk := by
  simp only [List.mem_cons, List.not_mem_nil, or_false, not_or] at seq
  obtain ⟨notReset, notInit, notAck⟩ := seq
  constructor <;> simp [notReset, notInit, notAck]

theorem State.Quiet.evidenceKept {t : State} (quiet : t.Quiet) (s : State) : EvidenceKept s t :=
  ⟨evidenceOk_of_seq quiet.1, fun _ idle success => absurd (quiet.2 idle) success⟩

/-- EvidenceOk looks at SEQ, OPR and the response only. -/
theorem State.EvidenceOk.congr {s t : State} (ok : s.EvidenceOk) (seq : t.seq = s.seq) (opr : t.opr = s.opr)
    (response : t.response = s.response) : t.EvidenceOk := by
  obtain ⟨settle, start, poll⟩ := ok
  constructor <;> simpa only [seq, opr, response]

theorem State.EvidenceOk.nextAct {s : State} (ok : s.EvidenceOk) : s.nextAct.2.EvidenceOk :=
  ok.congr (by simp) (by simp) (by simp [State.response])

/-- A step that leaves SEQ where it is ends no operation. -/
theorem State.EvidenceOk.kept_of_seq {s t : State} (ok : s.EvidenceOk) (seq : t.seq = s.seq) (opr : t.opr = s.opr)
    (response : t.response = s.response) : EvidenceKept s t :=
  ⟨ok.congr seq opr response, fun running idle _ => absurd (seq ▸ idle) running⟩

theorem evidenceKept_of_nextAct {s t : State} (h : EvidenceKept s.nextAct.2 t) : EvidenceKept s t := by
  simpa [EvidenceKept, State.response] using h

theorem finish_zero_quiet (s : State) : (s.finish 0x00).Quiet := ⟨by simp, fun _ => rfl⟩

/-- A running state that waits for no success, whatever RESULT still holds. -/
theorem quiet_of_seq {s : State} (seq : s.seq ∉ [.waitResetSettle, .waitInitSettle, .txAck, .idle]) : s.Quiet := by
  simp only [List.mem_cons, List.not_mem_nil, or_false, not_or] at seq
  obtain ⟨notReset, notInit, notAck, running⟩ := seq
  exact ⟨by simp [notReset, notInit, notAck], fun idle => absurd idle running⟩

section Failure

variable {s : State} (quiet : s.Quiet)
include quiet

theorem resetRunFailed_quiet : s.resetRunFailed.Quiet := by
  rcases resetRunFailed_cases s with ⟨h, -⟩ | ⟨h, -⟩ | ⟨h, -⟩ <;> rw [h]
  · exact finish_zero_quiet s
  · exact quiet_of_seq (by simp)
  · exact quiet

theorem loopExhausted_quiet : s.loopExhausted.Quiet := by
  rcases loopExhausted_cases s with ⟨h, -⟩ | ⟨h, -⟩ | ⟨h, -⟩ <;> rw [h]
  · exact finish_zero_quiet s
  · exact quiet_of_seq (by simp)
  · exact quiet

theorem attemptFailed_quiet : s.attemptFailed.Quiet := by
  rcases attemptFailed_cases s with ⟨h, -⟩ | ⟨-, h⟩ <;> rw [h]
  · exact quiet_of_seq (by simp)
  · exact loopExhausted_quiet quiet

theorem startResetRun_quiet : s.startResetRun.Quiet := by
  rcases startResetRun_cases s with ⟨-, h⟩ | ⟨-, h⟩ <;> rw [h]
  · exact quiet_of_seq (by simp)
  · exact resetRunFailed_quiet quiet

theorem exitRetry_quiet : s.exitRetry.Quiet := by
  rcases exitRetry_cases s with ⟨-, h⟩ | ⟨-, h⟩ <;> rw [h]
  · exact quiet_of_seq (by simp)
  · exact loopExhausted_quiet quiet

theorem exitInitRetry_quiet : s.exitInitRetry.Quiet := by
  rcases exitInitRetry_cases s with ⟨-, h⟩ | ⟨-, h⟩ <;> rw [h]
  · exact startResetRun_quiet quiet
  · exact finish_zero_quiet s

theorem openStep_quiet : s.openStep.Quiet := by
  rcases openStep_cases s with ⟨-, h⟩ | ⟨-, h⟩ <;> rw [h]
  · exact finish_zero_quiet _
  · exact startResetRun_quiet quiet

theorem sendCommand_quiet : s.sendCommand.Quiet := by
  cases ready : s.txReady with
  | false => rwa [sendCommand_of_notReady ready]
  | true => rw [sendCommand_of_ready ready]; exact quiet_of_seq (by simp)

theorem drainStep_quiet : s.drainStep.Quiet := by
  rcases drainStep_cases s with h | ⟨q, h⟩ <;> rw [h]
  · exact quiet_of_seq (by simp)
  · exact quiet

end Failure

theorem begin_quiet (s : State) (op : HostOp) : (s.begin op).Quiet := by
  rcases begin_cases s op with ⟨-, h⟩ | ⟨-, -, h⟩ | ⟨-, -, h⟩ <;> rw [h]
  · exact quiet_of_seq (by simp)
  · exact quiet_of_seq (by simp)
  · exact finish_zero_quiet _

theorem request_evidenceKept {s : State} (ok : s.EvidenceOk) (op : HostOp) : EvidenceKept s (s.request op) := by
  rcases request_cases s op with ⟨-, h⟩ | ⟨-, h | h⟩ <;> rw [h]
  · exact ok.kept_of_seq rfl rfl rfl
  · exact (begin_quiet s op).evidenceKept s
  · exact (begin_quiet _ op).evidenceKept s

/-- A response that shows EVAL something is validated, and shows bytes 3 and 4 (R80, R125). -/
theorem responseSeen_eq_some {s : State} {r : Received} (h : s.responseSeen = some r) :
    validate s.response = true ∧ byteAt s.response 3 = r.cmd ∧ byteAt s.response 4 = r.byte4 := by
  unfold State.responseSeen at h
  split at h
  · next valid => cases h; exact ⟨valid, rfl, rfl⟩
  · cases h

/-- EVAL waits to report a success only on the response that shows it (R159 to R161). -/
theorem evalBranch_evidenceKept {s : State} (hs : s.seq = .eval) :
    EvidenceKept s (s.runValidate.evalBranch s.responseSeen) := by
  have running : s.runValidate.Quiet := quiet_of_seq (by simp [hs])
  have sameResponse : (s.runValidate.evalBranch s.responseSeen).response = s.response := by simp [State.response]
  rcases evalBranch_cases s.runValidate s.responseSeen with
    ⟨h, -, r, seen, ack⟩ | ⟨h, hop, r, seen, ack⟩ | ⟨h, -⟩ | ⟨-, d, h⟩ | ⟨hop, d, r, h, seen, bill, nonzero⟩
  all_goals rw [h] at sameResponse ⊢
  · obtain ⟨valid, cmd, -⟩ := responseSeen_eq_some seen
    refine ⟨⟨fun _ => ?_, by simp, by simp⟩, by simp⟩
    rw [sameResponse]
    exact ⟨valid, cmd.trans ack⟩
  · obtain ⟨valid, cmd, -⟩ := responseSeen_eq_some seen
    refine ⟨⟨by simp, fun _ _ => ?_, fun _ isPoll => absurd (hop.symm.trans isPoll) (by decide)⟩, by simp⟩
    rw [sameResponse]
    exact ⟨valid, cmd.trans ack⟩
  · exact (attemptFailed_quiet running).evidenceKept s
  · exact (finish_zero_quiet _).evidenceKept s
  · obtain ⟨valid, cmd, byte4⟩ := responseSeen_eq_some seen
    refine ⟨⟨by simp, fun _ isStart => absurd (hop.symm.trans isStart) (by decide), fun _ _ => ?_⟩, by simp⟩
    rw [sameResponse]
    exact ⟨valid, cmd.trans bill, byte4 ▸ nonzero⟩

/-- RESET's success rests on the ACK that RB still holds, and INIT's goes on resting on it (R164). -/
theorem exitResetSettle_evidenceKept {s : State} (ok : s.EvidenceOk) (hs : s.seq = .waitResetSettle) :
    EvidenceKept s s.exitResetSettle := by
  obtain ⟨valid, ack⟩ := ok.settle (.inl hs)
  rcases exitResetSettle_cases s with ⟨-, h⟩ | ⟨-, h⟩ | h <;> rw [h]
  · exact ⟨⟨fun _ => ⟨valid, ack⟩, by simp, by simp⟩, by simp⟩
  · exact ⟨evidenceOk_of_seq (by simp), fun _ _ _ => ⟨rfl, rfl, valid, .inl ⟨rfl, ack, .inl hs⟩⟩⟩
  · exact ok.kept_of_seq rfl rfl rfl

theorem exitInitSettle_evidenceKept {s : State} (ok : s.EvidenceOk) (hs : s.seq = .waitInitSettle) :
    EvidenceKept s s.exitInitSettle := by
  obtain ⟨valid, ack⟩ := ok.settle (.inr hs)
  exact ⟨evidenceOk_of_seq (by simp), fun _ _ _ => ⟨rfl, rfl, valid, .inl ⟨rfl, ack, .inr (.inl hs)⟩⟩⟩

/-- START's success rests on the ACK in RB, and POLL reports byte 4 of the bill event in RB (R132). -/
theorem sendAck_evidenceKept {s : State} (ok : s.EvidenceOk) (hs : s.seq = .txAck) : EvidenceKept s s.sendAck := by
  rcases sendAck_cases s with ⟨-, hop, h⟩ | h <;> rw [h]
  · refine ⟨evidenceOk_of_seq (by simp), fun _ _ _ => ?_⟩
    rcases hop with hop | hop
    · obtain ⟨valid, ack⟩ := ok.start hs hop
      exact ⟨rfl, rfl, valid, .inl ⟨by simp [hop], ack, .inr (.inr ⟨hs, hop⟩)⟩⟩
    · obtain ⟨valid, bill, -⟩ := ok.poll hs hop
      obtain ⟨fiveBytes, -⟩ := (validate_response_iff s).1 valid
      have byte4 : byteAt s.response 4 = s.rb.read 4 := byteAt_response (by omega)
      exact ⟨rfl, rfl, valid, .inr ⟨(if_neg (by simp [hop])).trans byte4.symm, bill, hs, hop⟩⟩
  · exact ok.kept_of_seq rfl rfl rfl

/-- Settles O41: a failing or fresh state is quiet, EVAL records the evidence, and the three ends in success read it. -/
theorem stepKeepsEvidenceOfSuccess : Obligations.StepKeepsEvidenceOfSuccess := by
  intro s t ok h
  apply evidenceKept_of_nextAct
  have taken := ok.nextAct
  generalize hu : s.nextAct.2 = u at taken ⊢
  apply step_elim h hu
  case reset => exact fun _ _ _ => State.Quiet.evidenceKept ⟨by simp, fun _ => rfl⟩ u
  case held => exact fun _ => State.Quiet.evidenceKept ⟨by simp, fun _ => rfl⟩ u
  case heldRead => exact fun _ _ => State.Quiet.evidenceKept ⟨by simp, fun _ => rfl⟩ u
  case transport => exact fun _ => taken.kept_of_seq rfl rfl rfl
  case peripheral => exact fun _ _ => taken.kept_of_seq rfl rfl rfl
  case clock => exact fun _ => taken.kept_of_seq rfl rfl rfl
  case same => exact fun _ => taken.kept_of_seq rfl rfl rfl
  case read => exact fun _ _ => taken.kept_of_seq rfl rfl rfl
  case request => exact fun _ op _ _ => request_evidenceKept taken op
  case reserved => exact fun _ _ _ => taken.kept_of_seq (by simp) (by simp) (by simp [State.response])
  case opening => exact fun _ _ hs => (openStep_quiet (quiet_of_seq (by simp [hs]))).evidenceKept u
  case command => exact fun _ _ hs => (sendCommand_quiet (quiet_of_seq (by simp [hs]))).evidenceKept u
  case deadline => exact fun _ _ _ => (quiet_of_seq (by simp)).evidenceKept u
  case store =>
    intro b q room _ _ _ _
    have quiet : (u.store b q room).Quiet := quiet_of_seq <| by
      rcases store_seq_cases u b q room with ⟨-, h⟩ | ⟨-, h⟩ <;> simp [h]
    exact quiet.evidenceKept u
  case drain => exact fun _ _ hs => (drainStep_quiet (quiet_of_seq (by simp [hs]))).evidenceKept u
  case eval => exact fun _ _ hs => evalBranch_evidenceKept hs
  case waitRetry => exact fun _ _ hs => (exitRetry_quiet (quiet_of_seq (by simp [hs]))).evidenceKept u
  case waitResetSettle => exact fun _ _ hs => exitResetSettle_evidenceKept taken hs
  case waitInitRetry => exact fun _ _ hs => (exitInitRetry_quiet (quiet_of_seq (by simp [hs]))).evidenceKept u
  case waitInitSettle => exact fun _ _ hs => exitInitSettle_evidenceKept taken hs
  case ack => exact fun _ _ hs => sendAck_evidenceKept taken hs

end Sys2Proof.Machine

/-! Rules over every step of the machine: it answers, what RST holds, and what FAULT, the logs, RESULT, RB and SEQ allow
(10_state.md R20 to R37, 20_memory.md R59 to R65, 60_exceptions.md R180 to R193, 70_reset_and_hazards.md R210, R211). -/

namespace Sys2Proof.Machine

/-- The block's step answers a next state; a byte for RB[16] is the only stop, and a buffer that fills has left COLLECT (R68). -/
theorem blockFetch_answers {u : State} (filling : u.seq = .collect → u.rlen.val < 16) :
    ∃ t, u.blockFetch.outcome = .next t := by
  unfold State.blockFetch
  cases hs : u.seq with
  | txCmd => exact ⟨_, exec_commandInstr hs⟩
  | eval => exact ⟨_, evalFetch_outcome hs⟩
  | txAck => exact ⟨_, exec_ackInstr hs⟩
  | collect =>
    have collects : ∃ t, u.collectStep = .ok t := by
      by_cases late : u.timeoutFor ≤ u.elapsed
      · exact ⟨_, collectStep_of_elapsed late⟩
      · cases hq : u.rxq with
        | nil => exact ⟨_, collectStep_of_rxq_nil (Nat.lt_of_not_le late) hq⟩
        | cons b q => exact ⟨_, collectStep_of_rxq_cons (Nat.lt_of_not_le late) hq (filling hs)⟩
    obtain ⟨t, collected⟩ := collects
    exact ⟨t, by simp only [collected, Fetched.outcome]⟩
  | idle => exact ⟨_, rfl⟩
  | opening => exact ⟨_, rfl⟩
  | drain => exact ⟨_, rfl⟩
  | waitRetry => exact ⟨_, rfl⟩
  | waitResetSettle => exact ⟨_, rfl⟩
  | waitInitRetry => exact ⟨_, rfl⟩
  | waitInitSettle => exact ⟨_, rfl⟩

theorem hostFetch_answers (u : State) (a : Config.HostAccess) : ∃ t, (u.hostFetch a).outcome = .next t := by
  cases a with
  | read off => exact ⟨_, rfl⟩
  | write off b =>
    by_cases isOpreq : off = 0
    · rcases exec_decodeOpreq b u with ⟨op, h⟩ | h
      · exact ⟨_, by rw [State.hostFetch, if_pos isOpreq]; exact h⟩
      · exact ⟨_, by rw [State.hostFetch, if_pos isOpreq]; exact h⟩
    · exact ⟨u, by rw [State.hostFetch, if_neg isOpreq]; rfl⟩

theorem actFetch_answers {u : State} (filling : u.seq = .collect → u.rlen.val < 16) (e : Config.Event) :
    ∃ t, (u.actFetch e).outcome = .next t := by
  cases e with
  | rst level => simp only [State.actFetch]; split <;> exact ⟨_, rfl⟩
  | block =>
    simp only [State.actFetch]
    split
    · exact ⟨_, rfl⟩
    · exact blockFetch_answers filling
  | host a =>
    cases a with
    | write off b =>
      simp only [State.actFetch]
      split
      · exact ⟨_, rfl⟩
      · exact hostFetch_answers u _
    | read off =>
      simp only [State.actFetch]
      split
      · exact hostFetch_answers u.resetBlock _
      · exact hostFetch_answers u _
  | transport accepts => exact ⟨_, rfl⟩
  | peripheral bytes => exact ⟨_, rfl⟩
  | clock ms => exact ⟨_, rfl⟩

/-- Settles O43: the fault of COLLECT is ruled out by RLEN below 16 there. -/
theorem stepNeverStops : Obligations.StepNeverStops := by
  intro s ok
  exact actFetch_answers ok.nextAct.filling s.nextAct.1

/-- The elements RST clears, at their reset values (10_state.md R38; logs 4 to 7 and 10). -/
theorem resetBlock_eq_self_iff (s : State) : s.resetBlock = s ↔
    s.rb = [] ∧ s.rlen = 0 ∧ s.seq = .idle ∧ s.opr = .init ∧ s.att = 0 ∧ s.iatt = 0 ∧ s.t0 = 0 ∧ s.acc = 0 ∧
      s.status = ⟨false, false, false, false⟩ ∧ s.result = 0 ∧ s.codec = ⟨false, none⟩ := by
  constructor
  · intro h
    rw [← h]
    simp
  · intro h
    apply State.ext_fields <;> simp [h]

/-- Settles O42: with RST asserted every act of the block and the host is a reset, and the environment's acts touch no element
of the block. -/
theorem stepKeepsBlockInReset : Obligations.StepKeepsBlockInReset := by
  intro s t held h
  have atReset := fun asserted => (resetBlock_eq_self_iff s).1 (held asserted)
  apply step_elim h rfl
  case reset => exact fun _ _ _ _ => rfl
  case held => exact fun _ _ => rfl
  case heldRead => exact fun _ _ _ => rfl
  case transport => exact fun _ asserted => (resetBlock_eq_self_iff _).2 (by simpa using atReset (by simpa using asserted))
  case peripheral => exact fun _ _ asserted => (resetBlock_eq_self_iff _).2 (by simpa using atReset (by simpa using asserted))
  case clock => exact fun _ asserted => (resetBlock_eq_self_iff _).2 (by simpa using atReset (by simpa using asserted))
  -- Every other next state is answered with RST released, and keeps it released.
  all_goals
    intros
    simp_all

/-- Settles O37: the reset state is idle, with no flag set and every counter 0. -/
theorem resetMeetsInvariants : Obligations.ResetMeetsInvariants :=
  ⟨rfl, controlOk_of_idle rfl rfl, idle_cleared_countersOk rfl rfl rfl rfl, evidenceOk_of_seq (by decide), fun _ => rfl⟩

theorem request_fault (s : State) (op : HostOp) :
    (s.request op).fault = s.fault ∨ ∃ c, (s.request op).fault = some (s.fault.getD c) := by
  rcases request_cases s op with ⟨-, h⟩ | ⟨-, h | h⟩ <;> rw [h]
  · exact .inr ⟨.hostBusy, rfl⟩
  · exact .inl (by simp)
  · exact .inr ⟨.notOpened, by simp⟩

theorem requestReserved_fault (s : State) : ∃ c, s.requestReserved.fault = some (s.fault.getD c) := by
  rcases requestReserved_cases s with h | h <;> rw [h]
  · exact ⟨.hostBusy, rfl⟩
  · exact ⟨.badOp, rfl⟩

/-- Settles O44: `raiseFault` keeps the first fault, and only the two kinds of request raise one. -/
theorem faultIsStickyAndOnlyHostSetsIt : Obligations.FaultIsStickyAndOnlyHostSetsIt := by
  intro s t h
  suffices fault : t.fault = s.fault ∨
      (∃ b, s.nextAct.1 = .host (.write 0 b)) ∧ ∃ c, t.fault = some (s.fault.getD c) by
    rcases fault with kept | ⟨write, c, raised⟩
    · exact ⟨fun c first => kept.trans first, fun none some => absurd (kept.trans none) some⟩
    · exact ⟨fun c first => by rw [raised, first]; rfl, fun _ _ => write⟩
  apply step_elim h rfl
  case request =>
    intro b op _ act
    rcases request_fault s.nextAct.2 op with kept | raised
    · exact .inl (by simpa using kept)
    · exact .inr ⟨⟨b, act⟩, by simpa using raised⟩
  case reserved =>
    intro b _ act
    exact .inr ⟨⟨b, act⟩, by simpa using requestReserved_fault s.nextAct.2⟩
  -- Every other next state is made by operations whose frames keep FAULT.
  all_goals
    intros
    exact .inl (by simp)

/-- OPEN appends BAUD and sets OPENED (R155). -/
@[simp] theorem openStep_openlog (s : State) : s.openStep.openlog = s.openlog ++ [s.par.baud] := by
  rcases openStep_cases s with ⟨-, h⟩ | ⟨-, h⟩ <;> simp [h, State.markOpened]

@[simp] theorem openStep_opened (s : State) : s.openStep.status.opened = true := by
  rcases openStep_cases s with ⟨-, h⟩ | ⟨-, h⟩ <;> simp [h, State.markOpened]

/-- What TX_CMD does to TXLOG (R122, R193). -/
theorem sendCommand_txlog (s : State) :
    s.sendCommand.txlog = s.txlog ∨ s.txReady = true ∧ s.sendCommand.txlog = s.txlog ++ frameFor s.opr := by
  cases ready : s.txReady with
  | false => exact .inl (by rw [sendCommand_of_notReady ready])
  | true => exact .inr ⟨rfl, by rw [sendCommand_of_ready ready]; rfl⟩

/-- What TX_ACK does to TXLOG (R132, R193). -/
theorem sendAck_txlog (s : State) :
    s.sendAck.txlog = s.txlog ∨ s.txReady = true ∧ s.sendAck.txlog = s.txlog ++ ackFrame := by
  rcases sendAck_cases s with ⟨ready, -, h⟩ | h
  · exact .inr ⟨ready, by rw [h]; rfl⟩
  · exact .inl (by rw [h])

/-- Settles O45: TXLOG, OPENLOG and the record of reads are only appended to, and only the clock's act writes NOW. -/
theorem logsGrowAndClockIsMonotonic : Obligations.LogsGrowAndClockIsMonotonic := by
  intro s t h
  apply step_elim h rfl
  case command =>
    intros
    rcases sendCommand_txlog s.nextAct.2 with sent | ⟨-, sent⟩ <;> simp [sent]
  case ack =>
    intros
    rcases sendAck_txlog s.nextAct.2 with sent | ⟨-, sent⟩ <;> simp [sent]
  -- The appends of OPEN and of a host read, the clock's act, and operations whose frames keep all five.
  all_goals
    intros
    simp

/-- Settles O46: TX_CMD and TX_ACK are the only operations that do not keep TXLOG. -/
theorem onlyFixedFramesAreSent : Obligations.OnlyFixedFramesAreSent := by
  intro s t h
  apply step_elim h rfl
  case command =>
    intro _ act hs changed
    rcases sendCommand_txlog s.nextAct.2 with sent | ⟨ready, sent⟩
    · exact absurd (by simpa using sent) changed
    · exact ⟨act, by simpa using ready, .inl ⟨by simpa using hs, by simpa using sent⟩⟩
  case ack =>
    intro _ act hs changed
    rcases sendAck_txlog s.nextAct.2 with sent | ⟨ready, sent⟩
    · exact absurd (by simpa using sent) changed
    · exact ⟨act, by simpa using ready, .inr ⟨by simpa using hs, by simpa [ackFrame] using sent⟩⟩
  -- Every other next state is made by operations whose frames keep TXLOG.
  all_goals
    intros
    simp_all

end Sys2Proof.Machine

/-! What writes RESULT, RB, OPENED and OPENLOG, and what leaves IDLE (10_state.md R20 to R23, R29, R30, 60_exceptions.md R192). -/

namespace Sys2Proof.Machine

/-- RESULT is kept, or the operation is over with DONE (R176). -/
def ResultReported (s t : State) : Prop :=
  t.result = s.result ∨ (t.status.done = true ∧ t.status.busy = false ∧ t.seq = .idle)

theorem finish_resultReported (s r : State) (v : Byte) : ResultReported s (r.finish v) := .inr ⟨rfl, rfl, rfl⟩

theorem resetRunFailed_resultReported (s : State) : ResultReported s s.resetRunFailed := by
  rcases resetRunFailed_cases s with ⟨h, -⟩ | ⟨h, -⟩ | ⟨h, -⟩ <;> rw [h]
  · exact finish_resultReported s s 0x00
  · exact .inl rfl
  · exact .inl rfl

theorem loopExhausted_resultReported (s : State) : ResultReported s s.loopExhausted := by
  rcases loopExhausted_cases s with ⟨h, -⟩ | ⟨h, -⟩ | ⟨h, -⟩ <;> rw [h]
  · exact finish_resultReported s s 0x00
  · exact .inl rfl
  · exact .inl rfl

theorem attemptFailed_resultReported (s : State) : ResultReported s s.attemptFailed := by
  rcases attemptFailed_cases s with ⟨h, -⟩ | ⟨-, h⟩ <;> rw [h]
  · exact .inl rfl
  · exact loopExhausted_resultReported s

theorem startResetRun_resultReported (s : State) : ResultReported s s.startResetRun := by
  rcases startResetRun_cases s with ⟨-, h⟩ | ⟨-, h⟩ <;> rw [h]
  · exact .inl rfl
  · exact resetRunFailed_resultReported { s with att := 0 }

theorem evalBranch_resultReported (s : State) (rx : Option Received) : ResultReported s (s.evalBranch rx) := by
  rcases evalBranch_cases s rx with ⟨h, -⟩ | ⟨h, -⟩ | ⟨h, -⟩ | ⟨-, d, h⟩ | ⟨-, d, r, h, -⟩ <;> rw [h]
  · exact .inl rfl
  · exact .inl rfl
  · exact attemptFailed_resultReported s
  · exact finish_resultReported s _ 0x00
  · exact .inl rfl

theorem begin_resultReported (s : State) (op : HostOp) : ResultReported s (s.begin op) := by
  rcases begin_cases s op with ⟨-, h⟩ | ⟨-, -, h⟩ | ⟨-, -, h⟩ <;> rw [h]
  · exact .inl rfl
  · exact .inl rfl
  · exact finish_resultReported s _ 0x00

theorem request_resultReported (s : State) (op : HostOp) : ResultReported s (s.request op) := by
  rcases request_cases s op with ⟨-, h⟩ | ⟨-, h | h⟩ <;> rw [h]
  · exact .inl rfl
  · exact begin_resultReported s op
  · exact begin_resultReported (s.raiseFault .notOpened) op

theorem openStep_resultReported (s : State) : ResultReported s s.openStep := by
  rcases openStep_cases s with ⟨-, h⟩ | ⟨-, h⟩ <;> rw [h]
  · exact finish_resultReported s _ 0x00
  · exact startResetRun_resultReported { s.markOpened with iatt := 1 }

theorem exitRetry_resultReported (s : State) : ResultReported s s.exitRetry := by
  rcases exitRetry_cases s with ⟨-, h⟩ | ⟨-, h⟩ <;> rw [h]
  · exact .inl rfl
  · exact loopExhausted_resultReported s

theorem exitResetSettle_resultReported (s : State) : ResultReported s s.exitResetSettle := by
  rcases exitResetSettle_cases s with ⟨-, h⟩ | ⟨-, h⟩ | h <;> rw [h]
  · exact .inl rfl
  · exact finish_resultReported s s 0x01
  · exact .inl rfl

theorem exitInitRetry_resultReported (s : State) : ResultReported s s.exitInitRetry := by
  rcases exitInitRetry_cases s with ⟨-, h⟩ | ⟨-, h⟩ <;> rw [h]
  · exact startResetRun_resultReported { s with iatt := s.iatt + 1 }
  · exact finish_resultReported s s 0x00

theorem sendAck_resultReported (s : State) : ResultReported s s.sendAck := by
  rcases sendAck_cases s with ⟨-, -, h⟩ | h <;> rw [h]
  · exact finish_resultReported s _ _
  · exact .inl rfl

/-- Settles O48: apart from RST every next state reports its result. -/
theorem resultChangesOnlyWithDone : Obligations.ResultChangesOnlyWithDone := by
  intro s t released notAsserted h changed
  have released' : s.nextAct.2.rst = false := by simpa using released
  suffices reported : ResultReported s.nextAct.2 t from reported.resolve_left (by simpa using changed)
  generalize hu : s.nextAct.2 = u at released'
  apply step_elim h hu
  case reset =>
    intro level act resets
    have asserted : level = true := resets.resolve_right (by simp [released'])
    exact absurd (asserted ▸ act) notAsserted
  case held => exact fun asserted => absurd asserted (by simp [released'])
  case heldRead => exact fun _ asserted => absurd asserted (by simp [released'])
  case request => exact fun _ op _ _ => request_resultReported u op
  case opening => exact fun _ _ _ => openStep_resultReported u
  case eval => exact fun _ _ _ => by simpa [ResultReported] using evalBranch_resultReported u.runValidate u.responseSeen
  case waitRetry => exact fun _ _ _ => exitRetry_resultReported u
  case waitResetSettle => exact fun _ _ _ => exitResetSettle_resultReported u
  case waitInitRetry => exact fun _ _ _ => exitInitRetry_resultReported u
  case waitInitSettle => exact fun _ _ _ => finish_resultReported u u 0x01
  case ack => exact fun _ _ _ => sendAck_resultReported u
  -- Every other next state is made by operations whose frames keep RESULT.
  all_goals
    intros
    exact .inl (by simp)

/-- Settles O49: of all a step can do, only the byte COLLECT stores and RST touch RB. -/
theorem onlyCollectWritesTheBuffer : Obligations.OnlyCollectWritesTheBuffer := by
  intro s t released notAsserted h
  have released' : s.nextAct.2.rst ≠ true := by simpa using released
  apply step_elim h rfl
  case reset =>
    intro level act resets
    have asserted : level = true := resets.resolve_right released'
    exact absurd (asserted ▸ act) notAsserted
  case held => exact fun asserted => absurd asserted released'
  case heldRead => exact fun _ asserted => absurd asserted released'
  case store =>
    intro b q room _ act hs hq _
    exact ⟨act, by simpa using hs, by simpa using room, b, by simpa using hq,
      by simp⟩
  -- Every other next state is made by operations whose frames keep RB.
  all_goals
    intros
    simp_all

/-- The exits of the waits keep OPENED (R29). -/
@[simp] theorem exitRetry_opened (s : State) : s.exitRetry.status.opened = s.status.opened := by
  rcases exitRetry_cases s with ⟨-, h⟩ | ⟨-, h⟩ <;> simp [h]

@[simp] theorem exitResetSettle_opened (s : State) : s.exitResetSettle.status.opened = s.status.opened := by
  rcases exitResetSettle_cases s with ⟨-, h⟩ | ⟨-, h⟩ | h <;> simp [h]

@[simp] theorem exitInitRetry_opened (s : State) : s.exitInitRetry.status.opened = s.status.opened := by
  rcases exitInitRetry_cases s with ⟨-, h⟩ | ⟨-, h⟩ <;> simp [h]

/-- Settles O54: only OPEN does not keep OPENLOG, and only OPEN and RST do not keep OPENED. -/
theorem openedAndOpenlogChangeOnlyInOpen : Obligations.OpenedAndOpenlogChangeOnlyInOpen := by
  intro s t h
  apply step_elim h rfl
  case reset =>
    intro level act resets
    refine ⟨by simp, by simp, fun _ _ => ?_⟩
    rcases resets with rfl | asserted
    · exact .inr act
    · exact .inl (by simpa using asserted)
  case held => exact fun asserted => ⟨by simp, by simp, fun _ _ => .inl (by simpa using asserted)⟩
  case heldRead => exact fun _ asserted => ⟨by simp, by simp, fun _ _ => .inl (by simpa using asserted)⟩
  case opening =>
    intro running act hs
    have inOpen : s.seq = .opening := by simpa using hs
    exact ⟨fun _ => ⟨by simpa using running, act, inOpen, by simp, by simp⟩, fun _ _ => ⟨act, inOpen⟩, by simp⟩
  -- Every other next state is made by operations whose frames keep OPENLOG and OPENED.
  all_goals
    intros
    exact ⟨by simp, by simp_all, by simp_all⟩

/-- In IDLE no act but a write to OPREQ moves SEQ. -/
theorem opreqWrite_of_leavesIdle {s t : State} (idle : s.seq = .idle) (h : step s = .next t) (leaves : t.seq ≠ .idle) :
    s.rst = false ∧ ∃ b, s.nextAct.1 = .host (.write 0 b) := by
  revert leaves
  apply step_elim h rfl
  case request => exact fun b op running act _ => ⟨by simpa using running, b, act⟩
  case reserved => exact fun b running act _ => ⟨by simpa using running, b, act⟩
  -- Every other act keeps SEQ, needs SEQ elsewhere, or is RST.
  all_goals
    intros
    simp_all

/-- A request that leaves IDLE is accepted (R150, R151). -/
theorem request_leavesIdle {s : State} {op : HostOp} (idle : s.seq = .idle) (leaves : (s.request op).seq ≠ .idle) :
    s.status.busy = false ∧ (s.request op).status = s.status.accepted := by
  rcases request_cases s op with ⟨-, h⟩ | ⟨free, h | h⟩ <;> rw [h] at leaves ⊢
  · exact absurd idle leaves
  · rcases begin_cases s op with ⟨-, h⟩ | ⟨-, -, h⟩ | ⟨-, -, h⟩ <;> simp_all
  · rcases begin_cases (s.raiseFault .notOpened) op with ⟨-, h⟩ | ⟨-, -, h⟩ | ⟨-, -, h⟩ <;> simp_all

/-- Settles O55: leaving IDLE takes a write to OPREQ, whose row is a request and not R152's, and the request is accepted. -/
theorem onlyARequestLeavesIdle : Obligations.OnlyARequestLeavesIdle := by
  refine ⟨fun s u act running idle => step_of_idle act running idle, ?_⟩
  intro s t idle h leaves
  obtain ⟨released, b, act⟩ := opreqWrite_of_leavesIdle idle h leaves
  have idle' : s.nextAct.2.seq = .idle := by simpa using idle
  have run : exec (decodeOpreq b) s.nextAct.2 = .next t := by
    rw [← h, step_of_opreqWrite (Prod.ext act rfl) (by simpa using released)]
  have operation : b.getLsbD 2 = false := by
    by_contra reserved
    rw [exec_decodeOpreq_reserved _ (by simpa using reserved), Host.Outcome.next.injEq] at run
    exact leaves (by rw [← run]; simpa using idle)
  rcases exec_decodeOpreq b s.nextAct.2 with ⟨op, requested⟩ | reserved
  · rw [requested, Host.Outcome.next.injEq] at run
    obtain ⟨free, accepted⟩ := request_leavesIdle idle' (run ▸ leaves)
    refine ⟨⟨b, act, operation⟩, released, by simpa using free, ?_⟩
    rw [← run, accepted]
    simp [Status.accepted]
  · rw [reserved, Host.Outcome.next.injEq] at run
    exact absurd (by rw [← run]; simpa using idle) leaves

end Sys2Proof.Machine

/-! What an operation sends (41_exchange.md R133, 42_operations.md R169, R172, 60_exceptions.md R182). -/

namespace Sys2Proof.Machine

theorem copies_one (f : List Byte) : copies 1 f = f := by simp [copies]

theorem copies_succ (n : Nat) (f : List Byte) : copies (n + 1) f = copies n f ++ f := by
  rw [copies, List.replicate_succ', List.flatten_append, List.flatten_singleton, copies]

theorem copies_succ' (n : Nat) (f : List Byte) : copies (n + 1) f = f ++ copies n f := by
  rw [copies, List.replicate_succ, List.flatten_cons, copies]

theorem framesSent_of_init {s : State} (hop : s.opr = .init) :
    s.framesSent = (s.iatt - 1) * s.par.maxRetry + s.att := by
  simp only [State.framesSent, hop]

/-- Every operation but INIT has one loop, whose frames ATT counts (R25). -/
theorem framesSent_of_notInit {s : State} (hop : s.opr ≠ .init) : s.framesSent = s.att := by
  cases h : s.opr <;> simp_all [State.framesSent]

/-- TXLOG is `base` and then the operation's command frames (R133). -/
def State.HasSent (s : State) (base : List Byte) : Prop := s.txlog = base ++ s.commandsSent

theorem State.HasSent.congr {s t : State} {base : List Byte} (sent : s.HasSent base) (txlog : t.txlog = s.txlog)
    (opr : t.opr = s.opr) (frames : t.framesSent = s.framesSent) : t.HasSent base := by
  unfold State.HasSent State.commandsSent at *
  rw [txlog, opr, frames, sent]

/-- The common case: the counters are kept. -/
theorem State.HasSent.congr_counters {s t : State} {base : List Byte} (sent : s.HasSent base) (txlog : t.txlog = s.txlog)
    (opr : t.opr = s.opr) (att : t.att = s.att) (iatt : t.iatt = s.iatt) (par : t.par = s.par) : t.HasSent base :=
  sent.congr txlog opr (by simp only [State.framesSent, opr, att, iatt, par])

theorem State.HasSent.nextAct {s : State} {base : List Byte} (sent : s.HasSent base) : s.nextAct.2.HasSent base :=
  sent.congr_counters (by simp) (by simp) (by simp) (by simp) (by simp)

/-- TX_CMD appends one command frame and counts it (R122). -/
theorem sendCommand_hasSent {s : State} {base : List Byte} (sent : s.HasSent base) : s.sendCommand.HasSent base := by
  cases ready : s.txReady with
  | false => rwa [sendCommand_of_notReady ready]
  | true =>
    have counted : s.sendCommand.framesSent = s.framesSent + 1 := by
      rw [sendCommand_of_ready ready]
      cases hop : s.opr <;> simp only [State.framesSent, txWrite_opr, txWrite_iatt, txWrite_par, hop, Nat.add_assoc]
    have appended : s.sendCommand.txlog = s.txlog ++ frameFor s.opr := by rw [sendCommand_of_ready ready]; rfl
    have operation : s.sendCommand.opr = s.opr := by simp
    unfold State.HasSent State.commandsSent at *
    rw [appended, counted, operation, copies_succ, sent, List.append_assoc]

@[simp] theorem startResetRun_att (s : State) : s.startResetRun.att = 0 := by
  rcases startResetRun_cases s with ⟨-, h⟩ | ⟨-, h⟩ <;> simp [h]

/-- INIT's first run starts with no frame sent (R155, R167). -/
theorem openStep_hasSent {s : State} {base : List Byte} (hop : s.opr = .init) (fresh : s.att = 0 ∧ s.iatt = 0)
    (sent : s.HasSent base) : s.openStep.HasSent base := by
  have none : s.framesSent = 0 := by simp [framesSent_of_init hop, fresh]
  refine sent.congr (by simp) (by simp) ?_
  rw [framesSent_of_init (by simpa using hop), none]
  rcases openStep_cases s with ⟨-, h⟩ | ⟨-, h⟩ <;> simp [h, State.markOpened, fresh]

/-- INIT's next run starts when the frames of this one are MAX_RETRY (R165, R167). -/
theorem exitInitRetry_hasSent {s : State} {base : List Byte} (hop : s.opr = .init) (spent : s.att = s.par.maxRetry)
    (started : 1 ≤ s.iatt) (sent : s.HasSent base) : s.exitInitRetry.HasSent base := by
  rcases exitInitRetry_cases s with ⟨-, h⟩ | ⟨-, h⟩ <;> rw [h]
  · refine sent.congr (by simp) (by simp) ?_
    obtain ⟨k, hk⟩ := Nat.exists_eq_add_of_le' started
    rw [framesSent_of_init (by simpa using hop), framesSent_of_init hop]
    simp [hk, spent, Nat.add_mul]
  · exact sent.congr_counters rfl rfl rfl rfl rfl

/-- Settles O50: TX_CMD counts the frame it appends, INIT's run starts keep the count, and nothing else touches TXLOG or the
counters while the operation is in progress. -/
theorem operationSendsCountedFrames : Obligations.OperationSendsCountedFrames := by
  intro s t base control counters running sent h
  have taken := State.HasSent.nextAct sent
  have busy : s.nextAct.2.status.busy = true := by simpa using control.busy.2 running
  have pair := control.nextAct.pair
  have counted := counters.nextAct
  generalize hu : s.nextAct.2 = u at taken busy pair counted
  obtain ⟨initOnly, -, -, -⟩ := pair
  apply step_elim h hu
  case reset => exact fun _ _ _ away => absurd rfl away
  case held => exact fun _ away => absurd rfl away
  case heldRead => exact fun _ _ away => absurd rfl away
  case request =>
    intro _ op _ _ _
    rw [request_of_busy busy]
    exact taken.congr_counters rfl rfl rfl rfl rfl
  case opening => exact fun _ _ hs _ => openStep_hasSent (initOnly (by simp [hs])) (counted.fresh hs) taken
  case command => exact fun _ _ _ _ => sendCommand_hasSent taken
  case waitInitRetry =>
    intro _ _ hs _
    have hop : u.opr = .init := initOnly (by simp [hs])
    exact exitInitRetry_hasSent hop (counted.spent hs) (counted.started hop (by simp [hs]) (by simp [hs])) taken
  case ack =>
    intro _ _ _ away
    rcases sendAck_cases u with ⟨-, -, h⟩ | h <;> rw [h] at away ⊢
    · exact absurd rfl away
    · exact taken
  -- Every other next state is made by operations whose frames keep TXLOG and the counters.
  all_goals
    intros
    exact taken.congr_counters (by simp) (by simp) (by simp) (by simp) (by simp)

/-! The end of an operation. -/

/-- What a finished operation has sent: what `Obligations.FinishedOperationSendCounts` asks of its last step. -/
def FinishCounts (s t : State) (base : List Byte) : Prop :=
  (s.opr = .poll → t.txlog = base ++ pollFrame ++ if t.result = 0 then [] else ackFrame) ∧
  (s.opr = .start →
    (t.result = 0x01 ∧ ∃ n, n ≤ s.par.maxRetry ∧ t.txlog = base ++ copies n startFrame ++ ackFrame) ∨
    (t.result = 0x00 ∧ t.txlog = base ++ copies s.par.maxRetry startFrame)) ∧
  (s.opr = .reset →
    (t.result = 0x01 ∧ ∃ n, n ≤ s.par.maxRetry ∧ t.txlog = base ++ copies n resetFrame) ∨
    (t.result = 0x00 ∧ t.txlog = base ++ copies s.par.maxRetry resetFrame)) ∧
  (s.opr = .init →
    (t.result = 0x01 ∧ ∃ n, n ≤ s.par.initAttempts * s.par.maxRetry ∧ t.txlog = base ++ copies n resetFrame) ∨
    (t.result = 0x00 ∧ t.txlog = base ++ copies (s.par.initAttempts * s.par.maxRetry) resetFrame))

/-- The most command frames an operation may send (R169, R172). -/
def State.frameLimit (s : State) : Nat :=
  match s.opr with
  | .init => s.par.initAttempts * s.par.maxRetry
  | .reset => s.par.maxRetry
  | .start => s.par.maxRetry
  | .poll => 1

section Ends

variable {s t : State} {base : List Byte} (sent : s.HasSent base)
include sent

/-- An operation that fails has used up its frames. -/
theorem finishCounts_of_failed (hop : s.opr ≠ .poll) (full : s.framesSent = s.frameLimit) (result : t.result = 0x00)
    (txlog : t.txlog = s.txlog) : FinishCounts s t base := by
  unfold State.HasSent State.commandsSent at sent
  rw [full] at sent
  rw [sent] at txlog
  refine ⟨fun isPoll => absurd isPoll hop, fun hop => .inr ⟨result, ?_⟩, fun hop => .inr ⟨result, ?_⟩,
    fun hop => .inr ⟨result, ?_⟩⟩
  all_goals simpa only [State.frameLimit, hop, frameFor] using txlog

/-- RESET and INIT succeed within their frames. -/
theorem finishCounts_of_settled (hop : s.opr = .init ∨ s.opr = .reset) (within : s.framesSent ≤ s.frameLimit)
    (result : t.result = 0x01) (txlog : t.txlog = s.txlog) : FinishCounts s t base := by
  unfold State.HasSent State.commandsSent at sent
  rw [sent] at txlog
  rcases hop with hop | hop <;> simp only [State.frameLimit, frameFor, hop] at within txlog
  · exact ⟨by simp [hop], by simp [hop], by simp [hop], fun _ => .inl ⟨result, _, within, txlog⟩⟩
  · exact ⟨by simp [hop], by simp [hop], fun _ => .inl ⟨result, _, within, txlog⟩, by simp [hop]⟩

/-- START and POLL send ACK when they succeed; POLL's result is then not 0. -/
theorem finishCounts_of_acked (hop : s.opr = .start ∧ t.result = 0x01 ∧ s.att ≤ s.par.maxRetry ∨
    s.opr = .poll ∧ t.result ≠ 0x00 ∧ s.att = 1) (txlog : t.txlog = s.txlog ++ ackFrame) : FinishCounts s t base := by
  unfold State.HasSent State.commandsSent at sent
  rw [sent] at txlog
  rcases hop with ⟨hop, result, within⟩ | ⟨hop, result, once⟩ <;>
    rw [framesSent_of_notInit (by simp [hop])] at txlog <;> simp only [hop, frameFor] at txlog
  · exact ⟨by simp [hop], fun _ => .inl ⟨result, _, within, txlog⟩, by simp [hop], by simp [hop]⟩
  · refine ⟨fun _ => ?_, by simp [hop], by simp [hop], by simp [hop]⟩
    rw [if_neg result, txlog, once, copies_one]

/-- POLL sends nothing more when it has nothing to report. -/
theorem finishCounts_of_noEvent (hop : s.opr = .poll) (once : s.att = 1) (result : t.result = 0x00)
    (txlog : t.txlog = s.txlog) : FinishCounts s t base := by
  unfold State.HasSent State.commandsSent at sent
  rw [framesSent_of_notInit (by simp [hop]), once, copies_one, hop] at sent
  refine ⟨fun _ => ?_, by simp [hop], by simp [hop], by simp [hop]⟩
  rw [if_pos result, txlog, sent, List.append_nil, frameFor]

end Ends

/-- With MAX_RETRY 0 no loop sends a frame. -/
theorem framesSent_eq_limit_of_noRetries {s : State} (ok : s.CountersOk) (hop : s.opr ≠ .poll) (noRetries : s.par.maxRetry = 0) :
    s.framesSent = s.frameLimit := by
  have att : s.att = 0 := by simpa [noRetries] using ok.att hop
  cases h : s.opr <;> simp_all [State.framesSent, State.frameLimit]

/-- A loop used up in INIT's last run, or in an operation with one run, has sent every frame. -/
theorem framesSent_eq_limit_of_spent {s : State} (hop : s.opr ≠ .poll) (spent : s.att = s.par.maxRetry)
    (lastRun : s.opr = .init → s.iatt = s.par.initAttempts ∧ 1 ≤ s.iatt) : s.framesSent = s.frameLimit := by
  cases h : s.opr with
  | init =>
    obtain ⟨last, started⟩ := lastRun h
    obtain ⟨k, hk⟩ := Nat.exists_eq_add_of_le' started
    simp only [framesSent_of_init h, State.frameLimit, h, ← last, hk, spent, Nat.add_sub_cancel, Nat.add_mul, Nat.one_mul]
  | reset => simp only [State.framesSent, State.frameLimit, h, spent]
  | start => simp only [State.framesSent, State.frameLimit, h, spent]
  | poll => exact absurd h hop

/-- INIT and RESET stay within their frames. -/
theorem framesSent_le_limit {s : State} (ok : s.CountersOk) (hop : s.opr = .init ∨ s.opr = .reset)
    (source : s.seq ∉ [.idle, .opening]) : s.framesSent ≤ s.frameLimit := by
  simp only [List.mem_cons, List.not_mem_nil, or_false, not_or] at source
  rcases hop with hop | hop
  · have att : s.att ≤ s.par.maxRetry := ok.att (by simp [hop])
    obtain ⟨k, hk⟩ := Nat.exists_eq_add_of_le' (ok.started hop source.1 source.2)
    have runs : s.iatt * s.par.maxRetry ≤ s.par.initAttempts * s.par.maxRetry := Nat.mul_le_mul_right _ (ok.iatt hop)
    rw [hk, Nat.add_mul, Nat.one_mul] at runs
    simp only [framesSent_of_init hop, State.frameLimit, hop, hk, Nat.add_sub_cancel]
    omega
  · have att : s.att ≤ s.par.maxRetry := ok.att (by simp [hop])
    simpa only [framesSent_of_notInit (by simp [hop] : s.opr ≠ .init), State.frameLimit, hop] using att

/-- A run that ends at once had no attempts to make (R167, R168). -/
theorem startResetRun_idle {s : State} (running : s.seq ≠ .idle) (idle : s.startResetRun.seq = .idle) :
    s.par.maxRetry = 0 ∧ s.startResetRun.result = 0x00 := by
  rcases startResetRun_cases s with ⟨-, h⟩ | ⟨noRetries, h⟩ <;> rw [h] at idle ⊢
  · cases idle
  · rcases resetRunFailed_cases { s with att := 0 } with ⟨h, -⟩ | ⟨h, -⟩ | ⟨h, -⟩ <;> rw [h] at idle ⊢
    · exact ⟨noRetries, rfl⟩
    · cases idle
    · exact absurd idle running

section FailedEnds

variable {s : State} {base : List Byte} (sent : s.HasSent base) (ok : s.CountersOk)
include sent ok

theorem loopExhausted_finishCounts (source : s.seq ∉ [.idle, .opening]) (spent : s.par.maxRetry ≤ s.att)
    (idle : s.loopExhausted.seq = .idle) : FinishCounts s s.loopExhausted base := by
  simp only [List.mem_cons, List.not_mem_nil, or_false, not_or] at source
  rcases loopExhausted_cases s with ⟨h, hop, lastRun⟩ | ⟨h, -⟩ | ⟨h, -⟩ <;> rw [h] at idle ⊢
  · have full : s.framesSent = s.frameLimit :=
      framesSent_eq_limit_of_spent hop ((ok.att hop).antisymm spent) fun isInit =>
        ⟨(ok.iatt isInit).antisymm (lastRun isInit), ok.started isInit source.1 source.2⟩
    exact finishCounts_of_failed sent hop full rfl rfl
  · cases idle
  · exact absurd idle source.1

theorem attemptFailed_finishCounts (source : s.seq ∉ [.idle, .opening]) (idle : s.attemptFailed.seq = .idle) :
    FinishCounts s s.attemptFailed base := by
  rcases attemptFailed_cases s with ⟨h, -⟩ | ⟨spent, h⟩ <;> rw [h] at idle ⊢
  · cases idle
  · exact loopExhausted_finishCounts sent ok source spent idle

theorem exitRetry_finishCounts (source : s.seq ∉ [.idle, .opening]) (idle : s.exitRetry.seq = .idle) :
    FinishCounts s s.exitRetry base := by
  rcases exitRetry_cases s with ⟨-, h⟩ | ⟨spent, h⟩ <;> rw [h] at idle ⊢
  · cases idle
  · exact loopExhausted_finishCounts sent ok source spent idle

theorem evalBranch_finishCounts (hs : s.seq = .eval) (rx : Option Received) (idle : (s.evalBranch rx).seq = .idle) :
    FinishCounts s (s.evalBranch rx) base := by
  rcases evalBranch_cases s rx with ⟨h, -⟩ | ⟨h, -⟩ | ⟨h, -⟩ | ⟨hop, d, h⟩ | ⟨-, d, r, h, -⟩ <;> rw [h] at idle ⊢
  · cases idle
  · cases idle
  · exact attemptFailed_finishCounts sent ok (by simp [hs]) idle
  · exact finishCounts_of_noEvent sent hop ((ok.once hop (by simp [hs])).trans (if_neg (by simp [hs]))) rfl rfl
  · cases idle

theorem exitInitRetry_finishCounts (hop : s.opr = .init) (hs : s.seq = .waitInitRetry) (idle : s.exitInitRetry.seq = .idle) :
    FinishCounts s s.exitInitRetry base := by
  have notPoll : s.opr ≠ .poll := by simp [hop]
  rcases exitInitRetry_cases s with ⟨-, h⟩ | ⟨lastRun, h⟩ <;> rw [h] at idle ⊢
  · obtain ⟨noRetries, result⟩ := startResetRun_idle (by simp [hs]) idle
    exact finishCounts_of_failed sent notPoll (framesSent_eq_limit_of_noRetries ok notPoll noRetries) result (by simp)
  · have full : s.framesSent = s.frameLimit :=
      framesSent_eq_limit_of_spent notPoll (ok.spent hs) fun _ =>
        ⟨(ok.iatt hop).antisymm lastRun, ok.started hop (by simp [hs]) (by simp [hs])⟩
    exact finishCounts_of_failed sent notPoll full rfl rfl

theorem openStep_finishCounts (hop : s.opr = .init) (hs : s.seq = .opening) (idle : s.openStep.seq = .idle) :
    FinishCounts s s.openStep base := by
  have notPoll : s.opr ≠ .poll := by simp [hop]
  rcases openStep_cases s with ⟨noRuns, h⟩ | ⟨-, h⟩ <;> rw [h] at idle ⊢
  · have full : s.framesSent = s.frameLimit := by
      simp [framesSent_of_init hop, State.frameLimit, hop, ok.fresh hs, noRuns]
    exact finishCounts_of_failed sent notPoll full rfl rfl
  · obtain ⟨noRetries, result⟩ := startResetRun_idle (by simp [State.markOpened, hs]) idle
    have full : s.framesSent = s.frameLimit := framesSent_eq_limit_of_noRetries ok notPoll noRetries
    exact finishCounts_of_failed sent notPoll full result (by simp [State.markOpened])

theorem exitResetSettle_finishCounts (hs : s.seq = .waitResetSettle) (idle : s.exitResetSettle.seq = .idle) :
    FinishCounts s s.exitResetSettle base := by
  rcases exitResetSettle_cases s with ⟨-, h⟩ | ⟨hop, h⟩ | h <;> rw [h] at idle ⊢
  · cases idle
  · exact finishCounts_of_settled sent (.inr hop) (framesSent_le_limit ok (.inr hop) (by simp [hs])) rfl rfl
  · exact absurd idle (by simp [hs])

theorem sendAck_finishCounts (evidence : s.EvidenceOk) (hs : s.seq = .txAck) (idle : s.sendAck.seq = .idle) :
    FinishCounts s s.sendAck base := by
  rcases sendAck_cases s with ⟨-, hop, h⟩ | h <;> rw [h] at idle ⊢
  · refine finishCounts_of_acked sent (hop.imp (fun hop => ?_) (fun hop => ?_)) rfl
    · exact ⟨hop, by simp [hop], ok.att (by simp [hop])⟩
    · obtain ⟨valid, -, nonzero⟩ := evidence.poll hs hop
      obtain ⟨fiveBytes, -⟩ := (validate_response_iff s).1 valid
      rw [byteAt_response (by omega)] at nonzero
      exact ⟨hop, by simpa [hop] using nonzero, (ok.once hop (by simp [hs])).trans (if_neg (by simp [hs]))⟩
  · exact absurd idle (by simp [hs])

end FailedEnds

/-- Settles O51: each next state that ends an operation, by the lemma on its operation. -/
theorem finishedOperationSendCounts : Obligations.FinishedOperationSendCounts := by
  intro s t base control counters evidence running sent h
  show t.seq = .idle → t.status.done = true → FinishCounts s t base
  have taken := State.HasSent.nextAct sent
  have busy : s.nextAct.2.status.busy = true := by simpa using control.busy.2 running
  have pair := control.nextAct.pair
  have counted := counters.nextAct
  have backed := evidence.nextAct
  have away : s.nextAct.2.seq ≠ .idle := by simpa using running
  suffices ends : t.seq = .idle → t.status.done = true → FinishCounts s.nextAct.2 t base by
    simpa [FinishCounts] using ends
  generalize hu : s.nextAct.2 = u at *
  obtain ⟨initOnly, -, -, -⟩ := pair
  apply step_elim h hu
  case reset => exact fun _ _ _ _ done => by cases done
  case held => exact fun _ _ done => by cases done
  case heldRead => exact fun _ _ _ done => by cases done
  case request =>
    intro _ op _ _ idle
    rw [request_of_busy busy] at idle
    exact absurd idle away
  case opening => exact fun _ _ hs idle _ => openStep_finishCounts taken counted (initOnly (by simp [hs])) hs idle
  case command =>
    intro _ _ hs idle
    cases ready : u.txReady with
    | false => rw [sendCommand_of_notReady ready] at idle; exact absurd idle away
    | true => rw [sendCommand_of_ready ready] at idle; cases idle
  case deadline => exact fun _ _ _ idle => by cases idle
  case store =>
    intro b q room _ _ _ _ idle
    rcases store_seq_cases u b q room with ⟨-, h⟩ | ⟨-, h⟩ <;> rw [h] at idle <;> cases idle
  case drain =>
    intro _ _ hs idle
    rcases drainStep_cases u with h | ⟨q, h⟩ <;> rw [h] at idle
    · cases idle
    · exact absurd idle away
  case eval =>
    intro _ _ hs idle _
    have counted' : u.runValidate.CountersOk :=
      counted.congr (by simp) (by simp) (by simp) (by simp) (by simp) (by simp)
    have taken' : u.runValidate.HasSent base := taken.congr_counters (by simp) (by simp) (by simp) (by simp) (by simp)
    simpa [FinishCounts] using evalBranch_finishCounts taken' counted' (by simpa using hs) u.responseSeen idle
  case waitRetry => exact fun _ _ hs idle _ => exitRetry_finishCounts taken counted (by simp [hs]) idle
  case waitResetSettle => exact fun _ _ hs idle _ => exitResetSettle_finishCounts taken counted hs idle
  case waitInitRetry => exact fun _ _ hs idle _ => exitInitRetry_finishCounts taken counted (initOnly (by simp [hs])) hs idle
  case waitInitSettle =>
    intro _ _ hs _ _
    have hop : u.opr = .init := initOnly (by simp [hs])
    exact finishCounts_of_settled taken (.inl hop) (framesSent_le_limit counted (.inl hop) (by simp [hs])) rfl rfl
  case ack => exact fun _ _ hs idle _ => sendAck_finishCounts taken counted backed hs idle
  -- Every other act keeps SEQ.
  all_goals
    intros
    simp_all

end Sys2Proof.Machine

/-! Runs on a fixed schedule (42_operations.md R169): RESET against a silent peripheral, and RESET answered by ACK. -/

namespace Sys2Proof.Machine

/-- The next act of a schedule (log 1). -/
theorem nextAct_of_sched {s : State} {e : Config.Event} {rest : List Config.Event} (h : s.sched = e :: rest) :
    s.nextAct = (e, { s with sched := rest }) := by
  simp only [State.nextAct, h]

theorem step_of_clock {s u : State} {ms : Nat} (act : s.nextAct = (.clock ms, u)) :
    step s = .next { u with now := u.now + ms } := by
  simp only [step, State.fetch, act, State.actFetch, Fetched.outcome]

theorem step_of_peripheral {s u : State} {bytes : List Byte} (act : s.nextAct = (.peripheral bytes, u)) :
    step s = .next { u with rxq := u.rxq ++ bytes } := by
  simp only [step, State.fetch, act, State.actFetch, Fetched.outcome]

/-- A run of `j + k` steps is one of `j` and then one of `k`. -/
theorem run_add {M : Host.Core} {j : Nat} (k : Nat) {s t : M.State} (first : M.run j s = .next t) :
    M.run (j + k) s = M.run k t := by
  induction j generalizing s with
  | zero =>
    cases first
    rw [Nat.zero_add]
  | succ j ih =>
    rw [Nat.succ_add, Host.Core.run]
    rw [Host.Core.run] at first
    cases h : M.step s with
    | next u => rw [h] at first; exact ih first
    | fault r => rw [h] at first; cases first
    | refused r => rw [h] at first; cases first

/-- `k` steps of the machine lead from `s` to `t`. -/
def Reaches (k : Nat) (s t : State) : Prop := Sys2Proof.core.run k s = .next t

theorem reaches_step {s t : State} (h : step s = .next t) : Reaches 1 s t := by
  have h' : Sys2Proof.core.step s = .next t := h
  simp only [Reaches, Host.Core.run, h']

theorem Reaches.trans {j k : Nat} {s t u : State} (first : Reaches j s t) (second : Reaches k t u) : Reaches (j + k) s u :=
  (run_add k first).trans second

/-- A clock act that comes `ms` after T0 was taken makes Elapsed `ms` (R191). -/
theorem elapsed_of_stamp {s : State} {n ms : Nat} (t0 : s.t0 = n % 2 ^ s.par.tw) (now : s.now = n + ms)
    (short : ms < 2 ^ s.par.tw) : s.elapsed = ms := by
  have past : s.now - n = ms := by omega
  rw [(elapsedIsTrueTime s n t0 (by omega)).2 (by omega), past]

section ResetDeadline

variable {s : State} {n ms : Nat} (hop : s.opr = .reset) (t0 : s.t0 = n % 2 ^ s.par.tw) (now : s.now = n + ms)
  (short : ms < 2 ^ s.par.tw)
include hop t0 now short

/-- RESET's response deadline, `ms` after T0 was taken (R121, R123). -/
theorem reset_late (due : s.par.tResetResp ≤ ms) : s.timeoutFor ≤ s.elapsed := by
  rwa [timeoutFor_of_init_or_reset (.inr hop), elapsed_of_stamp t0 now short]

theorem reset_early (notDue : ms < s.par.tResetResp) : s.elapsed < s.timeoutFor := by
  rwa [timeoutFor_of_init_or_reset (.inr hop), elapsed_of_stamp t0 now short]

end ResetDeadline

theorem reaches_clock {s : State} {ms : Nat} {rest : List Config.Event} (sched : s.sched = .clock ms :: rest) :
    Reaches 1 s { s with now := s.now + ms, sched := rest } :=
  reaches_step (step_of_clock (nextAct_of_sched sched))

/-- COLLECT `ms` after the command of OPR went out (R122). -/
def State.commandSent (s : State) (ms : Nat) (rest : List Config.Event) : State :=
  { s with txlog := s.txlog ++ frameFor s.opr, att := s.att + 1, rlen := 0, t0 := s.stamp, now := s.now + ms,
           seq := .collect, sched := rest }

theorem reaches_commandSent {s : State} {ms : Nat} {rest : List Config.Event} (running : s.rst = false) (hs : s.seq = .txCmd)
    (ready : s.txReady = true) (sched : s.sched = .block :: .clock ms :: rest) : Reaches 2 s (s.commandSent ms rest) := by
  have sends := step_of_txCmd (nextAct_of_sched sched) running hs
  rw [sendCommand_of_ready (by exact ready)] at sends
  exact (reaches_step sends).trans (reaches_clock rfl)

/-- The deadline ends the collection (R123). -/
theorem reaches_deadline {s : State} {rest : List Config.Event} (running : s.rst = false) (hs : s.seq = .collect)
    (late : s.timeoutFor ≤ s.elapsed) (sched : s.sched = .block :: rest) :
    Reaches 1 s { s with seq := .eval, sched := rest } :=
  reaches_step (step_of_collect (nextAct_of_sched sched) running hs (collectStep_of_elapsed late))

theorem reaches_eval {s : State} {rest : List Config.Event} (running : s.rst = false) (hs : s.seq = .eval)
    (sched : s.sched = .block :: rest) :
    Reaches 1 s (State.evalBranch (State.runValidate { s with sched := rest }) s.responseSeen) :=
  reaches_step (step_of_eval (nextAct_of_sched sched) running hs)

/-! A silent peripheral. -/

/-- RESET in progress with nothing received, every write accepted, no delay after the last attempt, and timing parameters the
clock can tell (R218). -/
structure State.SilentReset (s : State) : Prop where
  running : s.rst = false
  opr : s.opr = .reset
  empty : s.rxq = []
  ready : s.txReady = true
  noFinalDelay : s.par.delayAfterFinal = false
  respShort : s.par.tResetResp < 2 ^ s.par.tw
  retryShort : s.par.tRetry < 2 ^ s.par.tw

/-- EVAL of an attempt that nothing answered: the timeout has passed and no byte is held. -/
def State.silentEval (s : State) (rest : List Config.Event) : State :=
  { s.commandSent s.par.tResetResp rest with seq := .eval, codec := { s.codec with valid := false } }

/-- One attempt against a silent peripheral fails (R162). -/
theorem reaches_silentAttempt {s : State} {rest : List Config.Event} (silent : s.SilentReset) (hs : s.seq = .txCmd)
    (sched : s.sched = silentAttempt s.par.tResetResp ++ rest) :
    Reaches 4 s (s.silentEval rest).attemptFailed := by
  obtain ⟨running, hop, empty, ready, noFinalDelay, respShort, retryShort⟩ := silent
  have listening := reaches_commandSent running hs ready sched
  have late : (s.commandSent s.par.tResetResp [.block, .block]).timeoutFor ≤
      (s.commandSent s.par.tResetResp [.block, .block]).elapsed :=
    reset_late (n := s.now) hop rfl rfl respShort le_rfl
  have evaluated := (listening.trans (reaches_deadline running rfl late rfl)).trans (reaches_eval running rfl rfl)
  rw [evalBranch_of_noAck (by simp [State.commandSent, hop])] at evaluated
  · exact evaluated
  · intro r seen
    cases seen

theorem silentEval_txlog {s : State} (hop : s.opr = .reset) (rest : List Config.Event) :
    (s.silentEval rest).txlog = s.txlog ++ resetFrame := by
  rw [State.silentEval, State.commandSent, hop, frameFor]

theorem attemptFailed_of_attemptLeft {s : State} (left : s.att < s.par.maxRetry) :
    s.attemptFailed = s.enterWait .waitRetry := if_pos (by simp [left])

/-- RESET ends at its last attempt when no delay follows it (R162, R168). -/
theorem attemptFailed_of_lastAttempt {s : State} (hop : s.opr = .reset) (spent : s.par.maxRetry ≤ s.att)
    (noFinalDelay : s.par.delayAfterFinal = false) : s.attemptFailed = s.finish 0x00 := by
  have noneLeft : ¬ (s.att < s.par.maxRetry ∨ s.par.delayAfterFinal = true) := by simp [noFinalDelay, spent]
  rw [failedAttemptRules s (by simp [hop]), if_neg noneLeft, if_neg (by simp [hop])]
  rfl

/-- The wait before a further attempt (R163). -/
theorem reaches_retry {s : State} {rest : List Config.Event} (running : s.rst = false) (hs : s.seq = .waitRetry)
    (stamped : s.t0 = s.now % 2 ^ s.par.tw) (attemptLeft : s.att < s.par.maxRetry) (retryShort : s.par.tRetry < 2 ^ s.par.tw)
    (sched : s.sched = .clock s.par.tRetry :: .block :: rest) :
    Reaches 2 s { s with now := s.now + s.par.tRetry, seq := .txCmd, sched := rest } := by
  have due : State.elapsed { s with now := s.now + s.par.tRetry, sched := rest } = s.par.tRetry :=
    elapsed_of_stamp (n := s.now) stamped rfl retryShort
  have exits := step_of_waitRetry (s := { s with now := s.now + s.par.tRetry, sched := .block :: rest })
    (nextAct_of_sched rfl) running hs
  rw [waitStep_eq, if_neg due.ge.not_gt, State.exitRetry, if_pos (by exact attemptLeft)] at exits
  exact (reaches_clock sched).trans (reaches_step exits)

/-- The schedule of one more attempt and its wait. -/
theorem length_silentRetries_succ (resp retry m : Nat) :
    (silentRetries resp retry (m + 1)).length = 2 + (silentAttempt resp ++ silentRetries resp retry m).length := by
  simp only [silentRetries, List.length_append, List.length_cons, List.length_nil]
  omega

/-- TX_CMD again, after an attempt that nothing answered and the wait that follows it. -/
def State.nextAttempt (s : State) (rest : List Config.Event) : State :=
  { s.silentEval rest with t0 := (s.now + s.par.tResetResp) % 2 ^ s.par.tw,
                           now := s.now + s.par.tResetResp + s.par.tRetry, seq := .txCmd }

theorem nextAttempt_silentReset {s : State} (silent : s.SilentReset) (rest : List Config.Event) :
    (s.nextAttempt rest).SilentReset :=
  ⟨silent.running, silent.opr, silent.empty, silent.ready, silent.noFinalDelay, silent.respShort, silent.retryShort⟩

theorem reaches_nextAttempt {s : State} {rest : List Config.Event} (silent : s.SilentReset) (hs : s.seq = .txCmd)
    (attemptLeft : s.att + 1 < s.par.maxRetry)
    (sched : s.sched = silentAttempt s.par.tResetResp ++ .clock s.par.tRetry :: .block :: rest) :
    Reaches 6 s (s.nextAttempt rest) := by
  have attempt := reaches_silentAttempt silent hs sched
  rw [attemptFailed_of_attemptLeft (by exact attemptLeft)] at attempt
  exact attempt.trans (reaches_retry silent.running rfl rfl attemptLeft silent.retryShort rfl)

/-- RESET at TX_CMD when `m` attempts may follow this one: against a silent peripheral it uses them all and fails. -/
theorem reaches_silentEnd (m : Nat) {s : State} (silent : s.SilentReset) (hs : s.seq = .txCmd)
    (left : s.att + (m + 1) = s.par.maxRetry)
    (sched : s.sched = silentAttempt s.par.tResetResp ++ silentRetries s.par.tResetResp s.par.tRetry m) :
    ∃ t, Reaches s.sched.length s t ∧ t.seq = .idle ∧ t.status.done = true ∧ t.result = 0x00 ∧ t.att = s.att + (m + 1) ∧
      t.txlog = s.txlog ++ copies (m + 1) resetFrame := by
  induction m generalizing s with
  | zero =>
    have attempt := reaches_silentAttempt silent hs sched
    rw [attemptFailed_of_lastAttempt (by exact silent.opr) (by exact left.ge) (by exact silent.noFinalDelay)] at attempt
    have length : s.sched.length = 4 := by rw [sched]; rfl
    exact ⟨_, length ▸ attempt, rfl, rfl, rfl, rfl, by rw [finish_txlog, silentEval_txlog silent.opr, copies_one]⟩
  | succ m ih =>
    obtain ⟨rest, hrest⟩ : ∃ rest, rest = silentAttempt s.par.tResetResp ++ silentRetries s.par.tResetResp s.par.tRetry m :=
      ⟨_, rfl⟩
    have sched' : s.sched = silentAttempt s.par.tResetResp ++ .clock s.par.tRetry :: .block :: rest := by
      rw [sched, hrest]; rfl
    have attempt := reaches_nextAttempt silent hs (by omega) sched'
    have left' : s.att + 1 + (m + 1) = s.par.maxRetry := by omega
    obtain ⟨t, others, idle, done, result, att, txlog⟩ := ih (nextAttempt_silentReset silent rest) rfl left' hrest
    have length : s.sched.length = 6 + rest.length := by
      rw [sched, List.length_append, length_silentRetries_succ, ← Nat.add_assoc, hrest]
      rfl
    have sent : (s.nextAttempt rest).txlog = s.txlog ++ resetFrame := silentEval_txlog silent.opr rest
    have counted : t.att = s.att + 1 + (m + 1) := att
    refine ⟨t, length ▸ attempt.trans others, idle, done, result, by omega, ?_⟩
    rw [txlog, sent, copies_succ' (m + 1), List.append_assoc]

/-- Settles O52: RESET at its first attempt, with MAX_RETRY - 1 to follow. -/
theorem silentResetSendsMaxRetryFrames : Obligations.SilentResetSendsMaxRetryFrames := by
  intro s m running hs hop unsent empty ready retries noFinalDelay respShort retryShort sched
  have silent : s.SilentReset := ⟨running, hop, empty, ready, noFinalDelay, respShort, retryShort⟩
  obtain ⟨t, run, idle, done, result, att, txlog⟩ := reaches_silentEnd m silent hs (by rw [unsent, retries, Nat.zero_add]) sched
  exact ⟨t, run, idle, done, result, by rw [att, unsent, Nat.zero_add], txlog⟩

/-! A peripheral that answers. -/

/-- Bytes written from `a` on leave the cells below `a` alone. -/
theorem Memory.read_writeAll_below {c : Nat} : ∀ {a : Nat} (m : Memory) (bytes : List Byte), c < a →
    (m.writeAll a bytes).read c = m.read c
  | _, _, [], _ => rfl
  | a, m, b :: bs, below => by
    rw [Memory.writeAll, Memory.read_writeAll_below _ bs (by omega), Memory.read_write_other (by omega)]

/-- Bytes written at rising addresses read back. -/
theorem Memory.bytes_writeAll : ∀ {m : Memory} {a : Nat} (bytes : List Byte), m.wf = true → a + bytes.length ≤ 16 →
    (m.writeAll a bytes).bytes a bytes.length = bytes
  | _, _, [], _, _ => rfl
  | m, a, b :: bs, canonical, fits => by
    rw [List.length_cons] at fits
    have canonical' : (m.write a b).wf = true := Memory.wf_write canonical (show a < 16 by omega)
    rw [Memory.writeAll, List.length_cons, Memory.bytes, Memory.read_writeAll_below _ bs (by omega),
      Memory.read_write_same canonical, Memory.bytes_writeAll bs canonical' (by omega)]

theorem reaches_peripheral {s : State} {bytes : List Byte} {rest : List Config.Event} (empty : s.rxq = [])
    (sched : s.sched = .peripheral bytes :: rest) : Reaches 1 s { s with rxq := bytes, sched := rest } := by
  have arrives := step_of_peripheral (nextAct_of_sched sched)
  simp only [empty, List.nil_append] at arrives
  exact reaches_step arrives

/-- A byte COLLECT stores before its deadline, when it is not the sixteenth (R123). -/
def State.stored (s : State) (b : Byte) (q : List Byte) (rest : List Config.Event) (room : s.rlen.val + 1 < 16) : State :=
  { s with rb := s.rb.write s.rlen b, rlen := ⟨s.rlen.val + 1, by omega⟩, rxq := q, sched := rest }

theorem reaches_stored {s : State} {b : Byte} {q : List Byte} {rest : List Config.Event} (running : s.rst = false)
    (hs : s.seq = .collect) (early : s.elapsed < s.timeoutFor) (hq : s.rxq = b :: q) (room : s.rlen.val + 1 < 16)
    (sched : s.sched = .block :: rest) : Reaches 1 s (s.stored b q rest room) := by
  have stores := step_of_collect (nextAct_of_sched sched) running hs
    (collectStep_of_rxq_cons (u := { s with sched := rest }) early hq (show s.rlen.val < 16 by omega))
  rw [State.store, if_neg (show ¬ s.rlen.val + 1 = 16 by omega), ← hs] at stores
  exact reaches_step stores

/-- COLLECT before its deadline stores the bytes that wait, one a step, while they leave RB room (R123). -/
theorem reaches_collected (bytes : List Byte) {s : State} {rest : List Config.Event} (running : s.rst = false)
    (hs : s.seq = .collect) (early : s.elapsed < s.timeoutFor) (hq : s.rxq = bytes) (room : s.rlen.val + bytes.length < 16)
    (sched : s.sched = List.replicate bytes.length .block ++ rest) :
    ∃ n : Fin 17, n.val = s.rlen.val + bytes.length ∧
      Reaches bytes.length s { s with rb := s.rb.writeAll s.rlen bytes, rlen := n, rxq := [], sched := rest } := by
  induction bytes generalizing s with
  | nil =>
    refine ⟨s.rlen, rfl, congrArg Host.Outcome.next ?_⟩
    apply State.ext_fields
    case rxq => exact hq
    case sched => exact sched
    all_goals rfl
  | cons b bs ih =>
    rw [List.length_cons, ← Nat.add_assoc, Nat.add_right_comm] at room
    have room' : s.rlen.val + 1 < 16 := by omega
    have first := reaches_stored running hs early hq room' sched
    obtain ⟨n, len, others⟩ := ih (s := s.stored b bs _ room') running hs early rfl room rfl
    refine ⟨n, len.trans (Nat.add_right_comm _ _ _), ?_⟩
    rw [List.length_cons, Nat.add_comm]
    exact first.trans others

/-- RESET's settling time ends in success (R164). -/
theorem reaches_settled {s : State} {rest : List Config.Event} (running : s.rst = false) (hs : s.seq = .waitResetSettle)
    (hop : s.opr = .reset) (stamped : s.t0 = s.now % 2 ^ s.par.tw) (short : s.par.tResetSettle < 2 ^ s.par.tw)
    (sched : s.sched = .clock s.par.tResetSettle :: .block :: rest) :
    Reaches 2 s (State.finish { s with now := s.now + s.par.tResetSettle, sched := rest } 0x01) := by
  have due : State.elapsed { s with now := s.now + s.par.tResetSettle, sched := rest } = s.par.tResetSettle :=
    elapsed_of_stamp (n := s.now) stamped rfl short
  have exits := step_of_waitResetSettle (s := { s with now := s.now + s.par.tResetSettle, sched := .block :: rest })
    (nextAct_of_sched rfl) running hs
  rw [waitStep_eq, if_neg due.ge.not_gt, exitResetSettle_eq (by exact .inr hop), if_neg (by simp [hop])] at exits
  exact (reaches_clock sched).trans (reaches_step exits)

/-- The ACK frame is a validated response whose CMD is 0x00 (R77). -/
theorem validate_ackFrame : validate ackFrame = true := by
  rw [← encode_ackInstr]
  exact validate_frameBytes (by decide)

/-- EVAL of an ACK in RESET's loop (R159). -/
theorem reaches_resetSettle {s : State} {rest : List Config.Event} (running : s.rst = false) (hs : s.seq = .eval)
    (hop : s.opr = .reset) (ack : s.response = ackFrame) (sched : s.sched = .block :: rest) :
    Reaches 1 s (State.enterWait (State.runValidate { s with sched := rest }) .waitResetSettle) := by
  have seen : s.responseSeen = some ⟨0x00, 0xC2⟩ := by
    rw [State.responseSeen, ack, if_pos validate_ackFrame]
    rfl
  have evaluated := reaches_eval running hs sched
  rwa [evalBranch_of_init_or_reset (by simp [hop]), seen, evalReset_of_ack rfl] at evaluated

/-- COLLECT `d` ms after the command of OPR went out, with the ACK frame in RB. -/
def State.answered (s : State) (d : Nat) (n : Fin 17) (rest : List Config.Event) : State :=
  { s.commandSent d rest with rb := s.rb.writeAll 0 ackFrame, rlen := n, rxq := [] }

@[simp] theorem answered_fields (s : State) (d : Nat) (n : Fin 17) (rest : List Config.Event) :
    (s.answered d n rest).rst = s.rst ∧ (s.answered d n rest).opr = s.opr ∧ (s.answered d n rest).att = s.att + 1 ∧
    (s.answered d n rest).rlen = n ∧ (s.answered d n rest).txlog = s.txlog ++ frameFor s.opr ∧
    (s.answered d n rest).sched = rest ∧ (s.answered d n rest).par = s.par := ⟨rfl, rfl, rfl, rfl, rfl, rfl, rfl⟩

theorem answered_response {s : State} {n : Fin 17} (canonical : s.memoryOk) (six : n.val = 6) (d : Nat)
    (rest : List Config.Event) : (s.answered d n rest).response = ackFrame := by
  have held : (s.rb.writeAll 0 ackFrame).bytes 0 6 = ackFrame := Memory.bytes_writeAll ackFrame canonical (by decide)
  rw [← six] at held
  exact held

/-- RESET goes out and its ACK is collected before the deadline (R122, R123). -/
theorem reaches_answered {s : State} {d : Nat} {rest : List Config.Event} (running : s.rst = false) (hs : s.seq = .txCmd)
    (hop : s.opr = .reset) (empty : s.rxq = []) (ready : s.txReady = true) (early : d < s.par.tResetResp)
    (short : d < 2 ^ s.par.tw)
    (sched : s.sched = .block :: .clock d :: .peripheral ackFrame :: (List.replicate 6 .block ++ rest)) :
    ∃ n : Fin 17, n.val = 6 ∧ Reaches 9 s (s.answered d n rest) := by
  have listening := (reaches_commandSent running hs ready sched).trans (reaches_peripheral empty rfl)
  have inTime : State.elapsed { s.commandSent d rest with rxq := ackFrame } <
      State.timeoutFor { s.commandSent d rest with rxq := ackFrame } :=
    reset_early (n := s.now) hop rfl rfl short early
  obtain ⟨n, six, collected⟩ := reaches_collected ackFrame
    (s := { s.commandSent d (List.replicate 6 .block ++ rest) with rxq := ackFrame }) running rfl inTime rfl
    (show 0 + 6 < 16 by decide) rfl
  exact ⟨n, six, listening.trans collected⟩

/-- Settles O53: the frame goes out, the ACK is collected before the deadline, EVAL accepts it at the deadline, and the
settling time ends in success. -/
theorem answeredResetSucceedsAtOnce : Obligations.AnsweredResetSucceedsAtOnce := by
  intro s d canonical running hs hop empty ready early respShort settleShort sched
  obtain ⟨n, six, answered⟩ := reaches_answered running hs hop empty ready early (early.trans respShort) sched
  have deadline : d + (s.par.tResetResp - d) = s.par.tResetResp := Nat.add_sub_cancel' early.le
  have late : State.timeoutFor { s.answered d n [] with now := s.now + d + (s.par.tResetResp - d) } ≤
      State.elapsed { s.answered d n [] with now := s.now + d + (s.par.tResetResp - d) } :=
    reset_late (n := s.now) hop rfl ((Nat.add_assoc _ _ _).trans (congrArg _ deadline)) respShort le_rfl
  have collected := (answered.trans (reaches_clock rfl)).trans (reaches_deadline running rfl late rfl)
  have accepted := collected.trans (reaches_resetSettle running rfl hop (answered_response canonical six d []) rfl)
  have settled := accepted.trans (reaches_settled (rest := []) (by simpa using running) rfl (by simpa using hop) rfl
    (by simpa using settleShort) (by simp))
  exact ⟨_, settled, rfl, rfl, rfl, by simp, by simpa using Fin.ext six, by simp [hop, frameFor]⟩

end Sys2Proof.Machine
